-- ==== Sys2Proof/Word.lean ====
section
/-! DEFINITION. The words of the SQ20: the byte of the serial link and of the media, the sixteen-bit
fields, the 256-byte block a sector buffer holds, runs of bits on RXD and RDATA, and the numbers of tags and buffers. -/

namespace Sys2Proof

/-- One byte: a character's eight data bits (R147), a content byte of a frame, a byte of a sector record. -/
abbrev Byte := BitVec 8

/-- A two-byte field: a check, a statistics counter on the link, a revolution period. -/
abbrev Word16 := BitVec 16

/-- The 256 bytes of one sector (R127, R103): the length is part of the type. -/
abbrev Block := { bytes : List Byte // bytes.length = 256 }

/-- A run of bits in the order they pass on RXD or RDATA, the number of them part of the type (R147, R170). -/
abbrev Bits (n : Nat) := { bits : List Bool // bits.length = n }

/-- A tag: one of sixteen request slots (R3). -/
abbrev TagNo := Fin 16

/-- A sector buffer: one of eight (R127). -/
abbrev BufNo := Fin 8

end Sys2Proof
end

