-- ==== Sys2Proof/Syntax.lean ====
section
/-! DEFINITION. The commands of the SQ20: one constructor for each row of the table of operations and
events. A frame command is a whole frame that has passed its link check, as the Link Receiver hands it
on (R156); the character-by-character way in is RX_BYTE. The part samples the level inputs TRK0n and
WPROTn at moments inside a command (R86, R99, R59), so every command in which that can happen carries
the levels that stand when it is taken (log entry 1). -/

namespace Sys2Proof

/-- Drive 0 or drive 1 (Table 0-2). -/
inductive Drive where
  | d0
  | d1
  deriving DecidableEq, Repr

/-- The drive that shares the drive bus with this one. -/
def Drive.other : Drive → Drive
  | .d0 => .d1
  | .d1 => .d0

/-- One value for each of the two drives. -/
structure Pair (α : Type) where
  d0 : α
  d1 : α
  deriving DecidableEq, Repr

/-- The value for one drive. -/
def Pair.get {α : Type} (p : Pair α) : Drive → α
  | .d0 => p.d0
  | .d1 => p.d1

/-- The pair with one drive's value replaced. -/
def Pair.set {α : Type} (p : Pair α) : Drive → α → Pair α
  | .d0, a => { p with d0 := a }
  | .d1, a => { p with d1 := a }

/-- The level inputs of the drive port, true when asserted: TRK00, TRK01 and WPROT0, WPROT1
(Table 0-2). -/
structure Levels where
  trk0 : Pair Bool
  wprot : Pair Bool
  deriving DecidableEq, Repr

/-- What caused a hardware reset: power coming up, or the RESET input (R146, R163). -/
inductive ResetCause where
  | power
  | line
  deriving DecidableEq, Repr

/-- The commands, one constructor for each row of the table, in the table's order. -/
inductive Instr where
  /-- RESET_BEGIN (R163): power coming up, or RESET going low. -/
  | resetBegin (cause : ResetCause)
  /-- HARDWARE_RESET (R163): the part leaves reset; the operands are the levels of the straps RATE1 and
  RATE0, high when true. -/
  | hardwareReset (rate1 rate0 : Bool)
  /-- RX_BYTE (R153): a character on RXD, its eight data bits as they came after the start bit (R147) and
  whether its stop bit is present (R148). -/
  | rxByte (lv : Levels) (data : Bits 8) (stopBit : Bool)
  /-- TIMEOUT (R155): the inter-byte timer expires. -/
  | timeout
  /-- OPEN (R160): a checked frame of kind 0x01. -/
  | openSession (session tag : Byte) (body : List Byte)
  /-- DEFINE (R50): a checked frame of kind 0x02. -/
  | define (session tag : Byte) (body : List Byte)
  /-- QUERY (R57): a checked frame of kind 0x03. -/
  | query (lv : Levels) (session tag : Byte) (body : List Byte)
  /-- READ (R14): a checked frame of kind 0x10. -/
  | read (lv : Levels) (session tag : Byte) (body : List Byte)
  /-- WRITE (R14): a checked frame of kind 0x11. -/
  | write (lv : Levels) (session tag : Byte) (body : List Byte)
  /-- VERIFY (R14): a checked frame of kind 0x12. -/
  | verify (lv : Levels) (session tag : Byte) (body : List Byte)
  /-- FORMAT (R14): a checked frame of kind 0x13. -/
  | format (lv : Levels) (session tag : Byte) (body : List Byte)
  /-- SEEK (R14): a checked frame of kind 0x14. -/
  | seek (lv : Levels) (session tag : Byte) (body : List Byte)
  /-- RECAL (R14): a checked frame of kind 0x15. -/
  | recal (lv : Levels) (session tag : Byte) (body : List Byte)
  /-- ABORT (R18): a checked frame of kind 0x20. -/
  | abort (lv : Levels) (session tag : Byte) (body : List Byte)
  /-- RELEASE (R24): a checked frame of kind 0x21. -/
  | release (session tag : Byte) (body : List Byte)
  /-- RESEND (R25): a checked frame of kind 0x22. -/
  | resend (session tag : Byte) (body : List Byte)
  /-- UNKNOWN_KIND (R6): a checked frame whose kind code is none of those above. -/
  | unknownKind (kind session tag : Byte) (body : List Byte)
  /-- HOLD_ASSERTED (R140): the host asserts HOLD. -/
  | holdAsserted
  /-- HOLD_DEASSERTED (R140): the host deasserts HOLD. -/
  | holdDeasserted
  /-- FRAME_END (R141): the last byte of the frame on TXD has left. -/
  | frameEnd
  /-- INDEX_PULSE (R62): an index pulse on a drive, with the interval since the previous index pulse of
  the spin-up in units of 0.1 ms, which R64 measures in STARTING and nothing else reads. -/
  | indexPulse (lv : Levels) (d : Drive) (interval : Word16)
  /-- SECTOR_PULSE (R69): a sector pulse on a drive. -/
  | sectorPulse (lv : Levels) (d : Drive)
  /-- SPIN_UP_TIMER_EXPIRY (R67). -/
  | spinUpTimerExpiry (lv : Levels) (d : Drive)
  /-- INDEX_WATCHDOG_EXPIRY (R71). -/
  | indexWatchdogExpiry (lv : Levels) (d : Drive)
  /-- RUN_ON_TIMER_EXPIRY (R79). -/
  | runOnTimerExpiry (d : Drive)
  /-- SYNC_MARK_FOUND (R108): RDATA shows the sync mark after a preamble. -/
  | syncMarkFound
  /-- ID_COMPLETE (R109): both ID bytes have arrived; the operands are the bits of each as RDATA brought
  them (R170). -/
  | idComplete (track sideSector : Bits 8)
  /-- RECORD_COMPLETE (R109): the 256 data bytes and the two check bytes have arrived; the operands are
  the bits of each run as RDATA brought them (R170). -/
  | recordComplete (data : Bits 2048) (check : Bits 16)
  /-- WRITE_COMPLETE (R112): the last bit of a write pass's media check has been sent. -/
  | writeComplete
  /-- FORMAT_SECTOR_COMPLETE (R115): the last bit of a format sector's media check has been sent. -/
  | formatSectorComplete
  /-- STEP_TIMER_EXPIRY (R85, R86). -/
  | stepTimerExpiry (lv : Levels) (d : Drive)
  /-- SETTLE_TIMER_EXPIRY (R89). -/
  | settleTimerExpiry (lv : Levels) (d : Drive)
  deriving DecidableEq, Repr

end Sys2Proof
end

