-- ==== Sys2Proof/Decode.lean ====
section
/-! DEFINITION. The table of operations and events gives no row any bits, so no word spells a command
(log entry 5). The bytes of the serial link are judged by the Link Receiver, in Machine/Link.lean and
Machine/Receiver.lean. -/

namespace Sys2Proof

/-- The command a word spells by the table's bits: the table gives no row bits, so there is none. -/
def decodeTableWord (_nbits _w : Nat) : Option Instr := none

end Sys2Proof
end

