-- ==== Sys2Proof/Config.lean ====
section
/-! DEFINITION. The constants of the part and the free value the manual leaves open. -/

namespace Sys2Proof

/-- The part code every announcement carries (R162). -/
def Config.partCode : Word16 := 0x2C14

/-- The silicon revision every announcement carries (R162). -/
def Config.revision : Byte := 3

/-- The most content bytes a frame holds, after escapes have been removed (R149). -/
def Config.contentLimit : Nat := 268

/-- The length of the inter-byte timer, in byte-times (R155). -/
def Config.interByteLimit : Nat := 32

/-- The most NOTICE entries the transmit list holds (R134). -/
def Config.noticeSlots : Nat := 5

/-- FREE VALUE (R127; log entry 3). The contents of every buffer after hardware reset have no defined
value: byte `index` of buffer `buffer` after the reset numbered `draw`. Nothing constrains it. -/
opaque Config.freeByte (draw buffer index : Nat) : Byte

end Sys2Proof
end

