-- ==== Sys2Proof/Machine/Check.lean ====
section
/-! DEFINITION. The two CRC-16 checks (R104, R150), the byte order of two-byte fields (R165) and the bit
order of the media (R170). -/

namespace Sys2Proof.Machine

/-- The high byte of a two-byte field, sent first (R165). -/
def hiByte (w : Word16) : Byte := w.extractLsb' 8 8

/-- The low byte of a two-byte field, sent second (R165). -/
def loByte (w : Word16) : Byte := w.extractLsb' 0 8

/-- A two-byte field in the order it is sent (R165). -/
def word16Bytes (w : Word16) : List Byte := [hiByte w, loByte w]

/-- The two-byte field of two bytes, high byte first (R150, R165). -/
def word16Of (hi lo : Byte) : Word16 := hi ++ lo

/-- The bits of a byte as the media carries them, most significant first (R170). -/
def byteBits (b : Byte) : List Bool :=
  [b.getMsbD 0, b.getMsbD 1, b.getMsbD 2, b.getMsbD 3, b.getMsbD 4, b.getMsbD 5, b.getMsbD 6, b.getMsbD 7]

/-- A run of bytes as WDATA carries it: in order, each most significant bit first (R170). -/
def mediaBits (bytes : List Byte) : List Bool := bytes.flatMap byteBits

/-- A byte from its bits, most significant first (R170). -/
def byteOfBits (bits : List Bool) : Byte := BitVec.ofNat 8 (bits.foldl (fun n b => 2 * n + b.toNat) 0)

/-- The byte at an offset of a run of bits taken from RDATA (R170). -/
def byteAt (bits : List Bool) (i : Nat) : Byte := byteOfBits ((bits.drop (8 * i)).take 8)

/-- One bit of the CRC with polynomial x^16 + x^12 + x^5 + 1 (R104, R150). -/
def crcBit (c : Word16) (bit : Bool) : Word16 :=
  if c.msb != bit then (c <<< 1) ^^^ 0x1021 else c <<< 1

/-- One byte of the CRC, most significant bit first (R104, R150). -/
def crcByte (c : Word16) (b : Byte) : Word16 :=
  (byteBits b).foldl crcBit c

/-- The CRC of a run of bytes from an initial value; the result is not inverted (R104, R150). -/
def crc16 (init : Word16) (bytes : List Byte) : Word16 := bytes.foldl crcByte init

/-- The link check: initial value 0xFFFF (R150). -/
def linkCheck (bytes : List Byte) : Word16 := crc16 0xFFFF bytes

/-- The media check: initial value 0x0000 (R104). -/
def mediaCheck (bytes : List Byte) : Word16 := crc16 0 bytes

end Sys2Proof.Machine
end

