-- ==== Sys2Proof/Machine/Link.lean ====
section
/-! DEFINITION. Frames on the serial link: characters (R147), marks, escapes and the link check (R149, R150),
the content layout (R165), the rates of the straps (R147, Table 0-3) and the announcements (R162, R167). -/

namespace Sys2Proof.Machine

/-! ### Characters -/

/-- One bit time of a character (R147). What levels stand for the bits is outside the manual. -/
inductive LineBit where
  | start
  | data (bit : Bool)
  | stop
  deriving DecidableEq, Repr

/-- The data bits of a character, least significant first (R147). -/
def dataBits (b : Byte) : List Bool := (byteBits b).reverse

/-- A character: a start bit, eight data bits, a stop bit, and no parity bit (R147). -/
def character (b : Byte) : List LineBit := .start :: ((dataBits b).map .data ++ [.stop])

/-- Bytes as TXD carries them, character after character with no gap (R147). -/
def characters (bytes : List Byte) : List LineBit := bytes.flatMap character

/-- The byte of a character's data bits, least significant first (R147). -/
def byteOfData (bits : List Bool) : Byte := byteOfBits bits.reverse

/-! ### Frames -/

/-- The frame delimiter (R149). -/
def mark : Byte := 0xF9

/-- The byte that introduces an escaped content byte (R149). -/
def escapeMark : Byte := 0xF8

/-- One content byte as it is sent: 0xF9 and 0xF8 as the escape byte and the byte exclusive-or 0x20,
every other byte as itself (R149). -/
def escapeByte (b : Byte) : List Byte :=
  if b = mark ∨ b = escapeMark then [escapeMark, b ^^^ 0x20] else [b]

/-- A frame on the line: opening mark, escaped content, closing mark (R149). -/
def lineBytes (content : List Byte) : List Byte :=
  mark :: (content.flatMap escapeByte ++ [mark])

/-- Content with its link check appended, high byte first (R142, R150). -/
def sealContent (bytes : List Byte) : List Byte := bytes ++ word16Bytes (linkCheck bytes)

/-- A frame the Link Receiver hands on: content without its check (R156, Table 12-1). -/
structure Frame where
  kind : Byte
  session : Byte
  tag : Byte
  body : List Byte
  deriving DecidableEq, Repr

/-- The body byte at an offset; a frame whose length has passed check 2 has every byte its kind reads
(R166). -/
def Frame.byte (f : Frame) (i : Nat) : Byte := f.body.getD i 0

/-- The content before the check, read as a frame (Table 12-1). -/
def frameOf (bytes : List Byte) : Frame :=
  ⟨bytes.getD 0 0, bytes.getD 1 0, bytes.getD 2 0, bytes.drop 3⟩

/-- What the announcements announce (R162). -/
inductive Announcement where
  | restarted (cause : ResetCause)
  | opened
  deriving DecidableEq, Repr

/-- The kind code of an announcement (Table 12-2). -/
def Announcement.kindCode : Announcement → Byte
  | .restarted _ => 0x81
  | .opened => 0x82

/-- The code of a reset's cause (Table 12-5). -/
def causeCode : ResetCause → Byte
  | .power => 0x01
  | .line => 0x02

/-- The body of an announcement (Table 12-5). -/
def Announcement.body : Announcement → List Byte
  | .restarted cause => word16Bytes Config.partCode ++ [Config.revision, causeCode cause]
  | .opened =>
    word16Bytes Config.partCode ++ [Config.revision, 0x10, 0x08, 0x02]
      ++ word16Bytes (BitVec.ofNat 16 Config.contentLimit)

/-- The content of an announcement's frame, sent under a session number with tag field 0xFF (R142,
Table 12-5). -/
def Announcement.content (a : Announcement) (session : Byte) : List Byte :=
  sealContent (a.kindCode :: session :: 0xFF :: a.body)

/-- The rates the straps select, in bits per second (Table 0-3). -/
inductive Rate where
  | r9600
  | r38400
  | r115200
  | r460800
  deriving DecidableEq, Repr

/-- The rate of the strap levels RATE1 and RATE0 (R147, Table 0-3). -/
def Rate.ofStraps : Bool → Bool → Rate
  | false, false => .r9600
  | false, true => .r38400
  | true, false => .r115200
  | true, true => .r460800

/-- A rate in bits per second (Table 0-3). -/
def Rate.bitsPerSecond : Rate → Nat
  | .r9600 => 9600
  | .r38400 => 38400
  | .r115200 => 115200
  | .r460800 => 460800

end Sys2Proof.Machine
end

