-- ==== Sys2Proof/Machine/State.lean ====
section
/-! DEFINITION. The state of the SQ20, block by block as Table 0-1 lists the blocks, and its value after
reset. Timers hold the length they were last started with while they run and nothing while they are
stopped; their expiry is a command (log entry 2). -/

namespace Sys2Proof.Machine

/-- The block has no fault: the manual describes no happening that stops the part. -/
inductive Fault where
  deriving DecidableEq, Repr

/-- Why a command has no outcome. -/
inductive Refusal where
  /-- Raised by an arm of `exec` whose command has no meaning yet; no arm is left so. Safe: a claim about
  such a command cannot be proved. -/
  | notModelled (mnemonic : String)
  deriving DecidableEq, Repr

/-! ### Codes the link carries -/

/-- The final statuses (Table 12-8). -/
inductive Status where
  | ok | aborted | notReady | mediaLost | wrongMedia | writeProtected | noSync | idMismatch
  | dataCheck | verifyMismatch | seekFail
  deriving DecidableEq, Repr

/-- The notice reasons: six link faults, then fifteen refusals (Table 12-8). -/
inductive Reason where
  | check | badEscape | long | short | timeout | line
  | unknownKind | badLength | notOpen | stale | badTag | tagBusy | badDrive | notDefined | outOfRange
  | noBuffer | driveBusy | noSuchTag | notDone | tooLate | alreadyPending
  deriving DecidableEq, Repr

/-- The drive events (Table 12-9). -/
inductive DriveEvent where
  | noMedia | spinFail | mediaLost | wrongMedia | headFault
  deriving DecidableEq, Repr

/-- The pending set of an EVENT entry: each event at most once (R134). -/
structure EventSet where
  noMedia : Bool
  spinFail : Bool
  mediaLost : Bool
  wrongMedia : Bool
  headFault : Bool
  deriving DecidableEq, Repr

/-! ### Drive Records -/

/-- The ten fields of a drive record, in the units of Table 3-2. -/
structure DriveRecord where
  tracks : Nat
  sides : Nat
  sectors : Nat
  stepInterval : Nat
  settleTime : Nat
  runOn : Nat
  spinUpLimit : Nat
  retryLimit : Nat
  ageLimit : Nat
  compTrack : Nat
  deriving DecidableEq, Repr

/-- What stands for the record of an UNDEFINED drive where a function needs one; no work of such a drive
reads it (R48). -/
def DriveRecord.absent : DriveRecord := ⟨0, 0, 0, 0, 0, 0, 0, 0, 0, 0⟩

/-- The five statistics counters of a drive, each 0 to 65535 (R53). -/
structure Stats where
  sectorsRead : Nat
  sectorsWritten : Nat
  failedAttempts : Nat
  misses : Nat
  recalibrations : Nat
  deriving DecidableEq, Repr

/-- All five counters 0 (R48, R56). -/
def Stats.zero : Stats := ⟨0, 0, 0, 0, 0⟩

/-! ### Spindle Monitor -/

/-- The motor condition (R60). -/
inductive Condition where
  | undefined | stopped | starting | turning
  deriving DecidableEq, Repr

/-- The media knowledge (R60). -/
inductive Media where
  | unknown | present | absent
  deriving DecidableEq, Repr

/-- The rotational position (R60). -/
inductive Position where
  | unknown
  | index
  | sector (n : Nat)
  deriving DecidableEq, Repr

/-- The measurement fields, which exist in STARTING (R60). -/
structure Measure where
  indexSeen : Bool
  earlier : Option Word16
  sectors : Nat
  deriving DecidableEq, Repr

/-- The state of one Spindle Monitor (Table 4-1) and its MOTORn line. Timer lengths are in units of
0.1 ms. -/
structure Spindle where
  motor : Bool
  condition : Condition
  media : Media
  position : Position
  period : Option Word16
  revCount : Option Nat
  measure : Option Measure
  spinUpTimer : Option Nat
  watchdog : Option Nat
  runOnTimer : Option Nat
  deriving DecidableEq, Repr

/-- A spindle that does not turn: MOTORn deasserted, no position, period, measurement or timer
(R61, R73, R79). -/
def Spindle.still (condition : Condition) (media : Media) : Spindle :=
  { motor := false, condition := condition, media := media, position := .unknown, period := none,
    revCount := none, measure := none, spinUpTimer := none, watchdog := none, runOnTimer := none }

/-! ### Head Positioner -/

/-- The head state (R81). -/
inductive HeadState where
  | unknown
  | onTrack (t : Nat)
  | moving (toward : Nat)
  | settling (t : Nat)
  deriving DecidableEq, Repr

/-- What motion was ordered (R83). -/
inductive MotionKind where
  | seek | recal | recalThenSeek
  deriving DecidableEq, Repr

/-- For whom a motion or a pass runs: the ACTIVE request on a tag, or detached (R4, R81, R105). -/
inductive Owner where
  | tag (t : TagNo)
  | detached
  deriving DecidableEq, Repr

/-- The stage of a motion (R81). -/
inductive MotionStage where
  | waiting | stepping | settling
  deriving DecidableEq, Repr

/-- The motion record (Table 5-1). A motion in stage WAITING is the drive's waiting STEP need (R93). -/
structure Motion where
  kind : MotionKind
  target : Nat
  owner : Owner
  stage : MotionStage
  stepCount : Nat
  deriving DecidableEq, Repr

/-- The state of one Head Positioner (Table 5-1). The running position is absent while UNKNOWN. Timer
lengths are in units of 0.1 ms. -/
structure Head where
  state : HeadState
  running : Option Nat
  motion : Option Motion
  stepTimer : Option Nat
  settleTimer : Option Nat
  deriving DecidableEq, Repr

/-- The head after hardware reset or an accepted DEFINE (R82). -/
def Head.lost : Head := ⟨.unknown, none, none, none, none⟩

/-! ### Directions and the QUERY snapshot -/

/-- A direction between tracks: INWARD is toward higher track numbers (R41, R84). -/
inductive Direction where
  | inward
  | outward
  deriving DecidableEq, Repr

/-- The QUERY snapshot (Table 3-5). An absent head track is UNKNOWN and an absent period unknown. -/
structure Snapshot where
  drive : Drive
  condition : Condition
  media : Media
  headTrack : Option Nat
  moving : Bool
  position : Position
  period : Option Word16
  writeProtect : Bool
  queueLength : Nat
  activeTag : Option TagNo
  reservation : Option Drive
  stats : Stats
  deriving DecidableEq, Repr

/-! ### Request Table -/

/-- The sector a READ, WRITE or VERIFY names (R14). -/
structure SectorAddr where
  track : Nat
  side : Nat
  sector : Nat
  deriving DecidableEq, Repr

/-- The retry fields of READ, WRITE and VERIFY (Table 1-1). -/
structure Ladder where
  attempts : Nat
  idRun : Nat
  recalibrated : Bool
  deriving DecidableEq, Repr

/-- The retry fields at acceptance (R14). -/
def Ladder.start : Ladder := ⟨0, 0, false⟩

/-- The request kind with the fields of Table 1-1 that are present for that kind alone. -/
inductive Work where
  | define
  | query (clear : Bool) (snapshot : Snapshot)
  | read (addr : SectorAddr) (buffer : BufNo) (ladder : Ladder)
  | write (addr : SectorAddr) (verify : Bool) (buffer : BufNo) (ladder : Ladder) (checkDue : Bool)
  | verify (addr : SectorAddr) (ladder : Ladder)
  | format (track side : Nat) (fill : Byte)
  | seek (track : Nat)
  | recal
  deriving DecidableEq, Repr

/-- The fields of a tag record that are present whenever the tag is not FREE (Table 1-1). -/
structure Request where
  work : Work
  drive : Drive
  session : Byte
  stamp : Nat
  written : Nat
  deriving DecidableEq, Repr

/-- The phase of an ACTIVE request (R3). -/
inductive Phase where
  | position | settle | rotate | pass
  deriving DecidableEq, Repr

/-- What entry to DONE fixes: the final status (R16) and, for SEEK and RECAL, the track reached, absent
when it is 0xFF (R171). -/
structure Final where
  status : Status
  reached : Option Nat
  deriving DecidableEq, Repr

/-- The state of a tag with the fields present in that state (Table 1-1, R3): the passed count in QUEUED
and ACTIVE, the phase and the abort-pending mark in ACTIVE, the final status from DONE on, the
release-pending mark in SENDING. -/
inductive TagState where
  | free
  | queued (r : Request) (passed : Nat)
  | active (r : Request) (passed : Nat) (phase : Phase) (abortPending : Bool)
  | done (r : Request) (final : Final)
  | sending (r : Request) (final : Final) (releasePending : Bool)
  | held (r : Request) (final : Final)
  deriving DecidableEq, Repr

/-! ### Sector Engine -/

/-- What a pass found or did (R105). -/
inductive Outcome where
  | ok | noSync | idMismatch | dataCheck | verifyMismatch | written
  deriving DecidableEq, Repr

/-- The stage of a read or check pass (Table 7-1). In READING the flag says whether the ID has arrived
and matched (R109). In DECIDED the data received wait for the ending pulse (R110). -/
inductive ReadStage where
  | searching
  | reading (idMatched : Bool)
  | decided (outcome : Outcome) (data : Option Block)
  deriving DecidableEq, Repr

/-- The stage of a write pass or of a format sector (Table 7-1). -/
inductive GateStage where
  | gateOpen | complete
  deriving DecidableEq, Repr

/-- The current sector of a format revolution with its stage (Table 7-1). -/
structure FormatSector where
  sector : Nat
  stage : GateStage
  deriving DecidableEq, Repr

/-- The kind of a pass with the fields of Table 7-1 that belong to that kind. A format revolution keeps
the fill byte of its request, which its records carry (R103). -/
inductive PassBody where
  | reading (check : Bool) (sector : Nat) (stage : ReadStage)
  | writing (sector : Nat) (stage : GateStage)
  | formatting (fill : Byte) (current : Option FormatSector) (completed : Nat) (stop : Bool)
  deriving DecidableEq, Repr

/-- The pass record (Table 7-1). -/
structure Pass where
  drive : Drive
  track : Nat
  side : Nat
  owner : Owner
  buffer : Option BufNo
  body : PassBody
  deriving DecidableEq, Repr

/-! ### Buffer Pool -/

/-- A buffer's binding (Table 8-1). -/
inductive Binding where
  | free
  | tag (t : TagNo)
  | detachedPass
  deriving DecidableEq, Repr

/-- A sector buffer (R127). -/
structure Buffer where
  binding : Binding
  contents : Block
  deriving DecidableEq, Repr

/-- The contents that stand for a buffer's undefined contents right after power-up (log entry 4). -/
def zeroBlock : Block := ⟨List.replicate 256 0, List.length_replicate⟩

/-! ### Drive Bus Arbiter and the drive port -/

/-- What a hold serves (R93). -/
inductive HoldKind where
  | step | pass
  deriving DecidableEq, Repr

/-- A hold of the drive bus (R93). -/
structure Hold where
  drive : Drive
  kind : HoldKind
  deriving DecidableEq, Repr

/-- The Drive Bus Arbiter (Table 6-1); a waiting STEP need is a motion in stage WAITING. -/
structure Bus where
  holder : Option Hold
  reservation : Option Drive
  alternation : Option Drive
  deriving DecidableEq, Repr

/-- The outputs of the drive port but MOTORn (Table 6-2): SELn, DIR, SIDE (true selects side 1), WGATE,
COMP, the bits of the record WDATA carries while the gate is open, in the order sent (R170), and the number
of pulses issued on STEP toward each drive, which is the model's own count (log entry 6). -/
structure Port where
  sel : Pair Bool
  dir : Direction
  side : Bool
  wgate : Bool
  comp : Bool
  wdata : List Bool
  steps : Pair Nat
  deriving DecidableEq, Repr

/-! ### Link Receiver and Link Transmitter -/

/-- The state of the Link Receiver with the content gathered, which is absent in IDLE (R151). -/
inductive RxPhase where
  | idle
  | gather (content : List Byte)
  | escape (content : List Byte)
  deriving DecidableEq, Repr

/-- The Link Receiver; the inter-byte timer's length is in byte-times (R151, R155). -/
structure Receiver where
  phase : RxPhase
  timer : Option Nat
  deriving DecidableEq, Repr

/-- An entry of the transmit list (Table 9-1). -/
inductive Entry where
  | reply (t : TagNo)
  | event (d : Drive) (set : EventSet)
  | notice (reason : Reason) (kind tag : Byte) (more : Nat)
  | started (a : Announcement)
  deriving DecidableEq, Repr

/-- The frame being sent: the tag of a REPLY frame, and the bits on TXD in order, the characters of the
content as composed when the frame began, with its marks and escapes (R140, R142, R147, R149). -/
structure TxFrame where
  reply : Option TagNo
  line : List LineBit
  deriving DecidableEq, Repr

/-! ### The whole part -/

/-- What belongs to one drive: its record and counters (Drive Records), its queue and sweep direction
(Scheduler), its Spindle Monitor and its Head Positioner. -/
structure DriveUnit where
  record : Option DriveRecord
  stats : Stats
  queue : List TagNo
  sweep : Direction
  spindle : Spindle
  head : Head
  deriving DecidableEq, Repr

/-- A drive after hardware reset (R48). -/
def DriveUnit.fresh : DriveUnit :=
  { record := none, stats := .zero, queue := [], sweep := .inward,
    spindle := .still .undefined .unknown, head := .lost }

/-- The state of the SQ20. -/
structure State where
  /-- Link Receiver (R151). -/
  rx : Receiver
  /-- Link Transmitter: the transmit list, oldest entry first (R134). -/
  list : List Entry
  /-- Link Transmitter: the frame being sent, absent while idle (R140). -/
  tx : Option TxFrame
  /-- STALL, true when asserted (R139). -/
  stall : Bool
  /-- Session Control: the session number, 0 while CLOSED (R159). -/
  session : Byte
  /-- Request Table: the sixteen tag records (R3). -/
  tags : Vector TagState 16
  /-- The arrival stamp the next accepted request takes (R1, R2). -/
  nextStamp : Nat
  /-- Drive Records, Scheduler, Spindle Monitors and Head Positioners. -/
  units : Pair DriveUnit
  /-- Drive Bus Arbiter (R93). -/
  bus : Bus
  /-- The outputs of the drive port (R94). -/
  port : Port
  /-- Sector Engine: the pass under way (R105). -/
  pass : Option Pass
  /-- Buffer Pool (R127). -/
  buffers : Vector Buffer 8
  /-- The rate in force, from the straps as sampled at the last hardware reset (R147). -/
  rate : Rate
  /-- HOLD, true when asserted (R140). -/
  hold : Bool
  /-- The level inputs of the drive port as the last command that carries them found them. -/
  levels : Levels
  /-- The part is held in reset, and for which cause (R163). -/
  resetHold : Option ResetCause
  /-- How many hardware resets have drawn free buffer contents (the model's own; log entry 3). -/
  draws : Nat
  /-- The commands that wait, first in, first out (the model's own; log entry 5). -/
  pending : List Instr
  deriving DecidableEq, Repr

/-- The part right after power has come up and it has left reset (R163, R146): every block at its reset
value, and the RESTARTED frame with cause POWER begun, since HOLD is not asserted. The strap levels, the
input levels, DIR, SIDE and the buffer contents are the model's choices (log entry 4). -/
def State.reset : State where
  rx := ⟨.idle, none⟩
  list := []
  tx := some ⟨none, characters (lineBytes ((Announcement.restarted .power).content 0))⟩
  stall := false
  session := 0
  tags := Vector.replicate 16 .free
  nextStamp := 0
  units := ⟨.fresh, .fresh⟩
  bus := ⟨none, none, none⟩
  port := ⟨⟨false, false⟩, .inward, false, false, false, [], ⟨0, 0⟩⟩
  pass := none
  buffers := Vector.replicate 8 ⟨.free, zeroBlock⟩
  rate := .r9600
  hold := false
  levels := ⟨⟨false, false⟩, ⟨false, false⟩⟩
  resetHold := none
  draws := 0
  pending := []

end Sys2Proof.Machine
end

