-- ==== Sys2Proof/Machine/Flags.lean ====
section
/-! DEFINITION. The codes and flags that frames carry: statuses, reasons and events (R169), the snapshot
(R168), and the flags bytes of QUERY and WRITE (R166). -/

namespace Sys2Proof.Machine

/-- The code of a final status (Table 12-8). -/
def Status.code : Status → Byte
  | .ok => 0x00
  | .aborted => 0x01
  | .notReady => 0x02
  | .mediaLost => 0x03
  | .wrongMedia => 0x04
  | .writeProtected => 0x05
  | .noSync => 0x06
  | .idMismatch => 0x07
  | .dataCheck => 0x08
  | .verifyMismatch => 0x09
  | .seekFail => 0x0A

/-- The code of a notice reason (Table 12-8). -/
def Reason.code : Reason → Byte
  | .check => 0x01
  | .badEscape => 0x02
  | .long => 0x03
  | .short => 0x04
  | .timeout => 0x05
  | .line => 0x06
  | .unknownKind => 0x10
  | .badLength => 0x11
  | .notOpen => 0x12
  | .stale => 0x13
  | .badTag => 0x14
  | .tagBusy => 0x15
  | .badDrive => 0x16
  | .notDefined => 0x17
  | .outOfRange => 0x18
  | .noBuffer => 0x19
  | .driveBusy => 0x1A
  | .noSuchTag => 0x1B
  | .notDone => 0x1C
  | .tooLate => 0x1D
  | .alreadyPending => 0x1E

/-- The pending set of an entry just made: one event (R136). -/
def EventSet.single : DriveEvent → EventSet
  | .noMedia => ⟨true, false, false, false, false⟩
  | .spinFail => ⟨false, true, false, false, false⟩
  | .mediaLost => ⟨false, false, true, false, false⟩
  | .wrongMedia => ⟨false, false, false, true, false⟩
  | .headFault => ⟨false, false, false, false, true⟩

/-- An event joins a pending set, which holds it at most once (R136). -/
def EventSet.insert (set : EventSet) : DriveEvent → EventSet
  | .noMedia => { set with noMedia := true }
  | .spinFail => { set with spinFail := true }
  | .mediaLost => { set with mediaLost := true }
  | .wrongMedia => { set with wrongMedia := true }
  | .headFault => { set with headFault := true }

/-- The event set byte: bits 0 to 4, the others 0 (Table 12-9). -/
def EventSet.code (set : EventSet) : Byte :=
  (if set.noMedia then 0x01 else 0) ||| (if set.spinFail then 0x02 else 0)
    ||| (if set.mediaLost then 0x04 else 0) ||| (if set.wrongMedia then 0x08 else 0)
    ||| (if set.headFault then 0x10 else 0)

/-- The number of a drive in a frame (Table 12-6). -/
def driveCode : Drive → Byte
  | .d0 => 0x00
  | .d1 => 0x01

/-- The code of a motor condition (Table 12-7). -/
def Condition.code : Condition → Byte
  | .undefined => 0x00
  | .stopped => 0x01
  | .starting => 0x02
  | .turning => 0x03

/-- The code of the media knowledge (Table 12-7). -/
def Media.code : Media → Byte
  | .unknown => 0x00
  | .present => 0x01
  | .absent => 0x02

/-- A track in a frame, 0xFF when unknown (Tables 12-5 and 12-6). -/
def trackCode : Option Nat → Byte
  | some t => BitVec.ofNat 8 t
  | none => 0xFF

/-- The rotational position in a frame (Table 12-6). -/
def Position.code : Position → Byte
  | .sector n => BitVec.ofNat 8 n
  | .index => 0xFE
  | .unknown => 0xFF

/-- A flag in a frame of its own byte (Table 12-6). -/
def flagCode (b : Bool) : Byte := if b then 0x01 else 0x00

/-- The active tag in a frame, 0xFF for none (Table 12-6). -/
def tagCode : Option TagNo → Byte
  | some t => BitVec.ofNat 8 t.val
  | none => 0xFF

/-- The reservation holder in a frame, 0xFF for NONE (Table 12-6). -/
def holderCode : Option Drive → Byte
  | some d => driveCode d
  | none => 0xFF

/-- A statistics counter in a frame, high byte first (Table 12-6). -/
def counterBytes (n : Nat) : List Byte := word16Bytes (BitVec.ofNat 16 n)

/-- The five counters in the order of Table 12-6. -/
def Stats.bytes (c : Stats) : List Byte :=
  counterBytes c.sectorsRead ++ counterBytes c.sectorsWritten ++ counterBytes c.failedAttempts
    ++ counterBytes c.misses ++ counterBytes c.recalibrations

/-- The 22 bytes of a snapshot (Table 12-6). -/
def Snapshot.bytes (q : Snapshot) : List Byte :=
  [driveCode q.drive, q.condition.code, q.media.code, trackCode q.headTrack, flagCode q.moving,
   q.position.code] ++ word16Bytes (q.period.getD 0)
    ++ [flagCode q.writeProtect, BitVec.ofNat 8 q.queueLength, tagCode q.activeTag,
        holderCode q.reservation] ++ q.stats.bytes

/-- The flags byte of QUERY or WRITE: 0x00 clear, 0x01 set, any other value not defined (R166). -/
def flagOf (b : Byte) : Option Bool :=
  if b = 0x00 then some false else if b = 0x01 then some true else none

end Sys2Proof.Machine
end

