-- ==== Sys2Proof/Machine/Operands.lean ====
section
/-! DEFINITION. The operand forms: the drive field (check 7), and the fields of each body with the ranges
of Table 1-5 (check 9), with the offsets of Table 12-3; and the bytes of the record that RDATA brings. -/

namespace Sys2Proof.Machine

/-- A drive field: 0 or 1 (R9, check 7). -/
def driveOf (b : Byte) : Except Reason Drive :=
  if b = 0 then .ok .d0 else if b = 1 then .ok .d1 else .error .badDrive

/-- Track, side and sector at offsets 1 to 3 of READ, WRITE and VERIFY, within the drive record (R10). -/
def sectorOperand (g : DriveRecord) (f : Frame) : Except Reason SectorAddr :=
  let a : SectorAddr := ⟨(f.byte 1).toNat, (f.byte 2).toNat, (f.byte 3).toNat⟩
  if a.track < g.tracks ∧ a.side < g.sides ∧ a.sector < g.sectors then .ok a
  else .error .outOfRange

/-- A flags byte in range (R10, R166). -/
def flagOperand (b : Byte) : Except Reason Bool :=
  match flagOf b with
  | some v => .ok v
  | none => .error .outOfRange

/-- Track and side at offsets 1 and 2 of FORMAT (R10). -/
def formatOperand (g : DriveRecord) (f : Frame) : Except Reason (Nat × Nat) :=
  if (f.byte 1).toNat < g.tracks ∧ (f.byte 2).toNat < g.sides then
    .ok ((f.byte 1).toNat, (f.byte 2).toNat)
  else .error .outOfRange

/-- The target track at offset 1 of SEEK (R10). -/
def seekOperand (g : DriveRecord) (f : Frame) : Except Reason Nat :=
  if (f.byte 1).toNat < g.tracks then .ok (f.byte 1).toNat else .error .outOfRange

/-- The ten record values at offsets 1 to 10 of DEFINE (R15, R166). -/
def recordOf (f : Frame) : DriveRecord :=
  { tracks := (f.byte 1).toNat, sides := (f.byte 2).toNat, sectors := (f.byte 3).toNat,
    stepInterval := (f.byte 4).toNat, settleTime := (f.byte 5).toNat, runOn := (f.byte 6).toNat,
    spinUpLimit := (f.byte 7).toNat, retryLimit := (f.byte 8).toNat, ageLimit := (f.byte 9).toNat,
    compTrack := (f.byte 10).toNat }

/-- The ranges of Table 3-2 (R47, R49). -/
def DriveRecord.inRange (g : DriveRecord) : Bool :=
  decide (1 ≤ g.tracks ∧ g.tracks ≤ 96) && decide (1 ≤ g.sides ∧ g.sides ≤ 2)
    && decide (4 ≤ g.sectors ∧ g.sectors ≤ 24) && decide (2 ≤ g.stepInterval ∧ g.stepInterval ≤ 30)
    && decide (5 ≤ g.settleTime ∧ g.settleTime ≤ 60) && decide (g.runOn ≤ 255)
    && decide (2 ≤ g.spinUpLimit ∧ g.spinUpLimit ≤ 50) && decide (g.retryLimit ≤ 7)
    && decide (g.ageLimit ≤ 15) && decide (g.compTrack ≤ 96)

/-- The record of a DEFINE, each field in its range (R10). -/
def recordOperand (f : Frame) : Except Reason DriveRecord :=
  if (recordOf f).inRange then .ok (recordOf f) else .error .outOfRange

/-- The 256 data bytes at offsets 5 to 260 of WRITE, in buffer order (R166). -/
def writeData (f : Frame) : Block :=
  ⟨(List.range 256).map fun i => f.byte (5 + i), by rw [List.length_map, List.length_range]⟩

/-- The 256 data bytes of the bits RDATA brings after the ID (R109, R170). -/
def rdataBlock (data : Bits 2048) : Block :=
  ⟨(List.range 256).map (byteAt data.val), by rw [List.length_map, List.length_range]⟩

/-- The media check of the bits RDATA brings after the data, high byte first (R104, R109, R170). -/
def rdataCheck (check : Bits 16) : Word16 := word16Of (byteAt check.val 0) (byteAt check.val 1)

end Sys2Proof.Machine
end

