-- ==== Sys2Proof/Machine/Ops.lean ====
section
/-! DEFINITION. The named operations over the registers of the part: the drives, the tag records, the
buffers, the statistics and the transmit list. Every other file reads and writes the state through
these. -/

namespace Sys2Proof.Machine

/-! ### Drives -/

/-- What belongs to a drive. -/
def State.drive (s : State) (d : Drive) : DriveUnit := s.units.get d

/-- Replace what belongs to a drive. -/
def State.setDrive (s : State) (d : Drive) (u : DriveUnit) : State :=
  { s with units := s.units.set d u }

/-- The record in force for a drive (R47). -/
def State.geometry (s : State) (d : Drive) : DriveRecord := (s.drive d).record.getD .absent

/-- Replace a drive's queue. -/
def State.setQueue (s : State) (d : Drive) (q : List TagNo) : State :=
  s.setDrive d { s.drive d with queue := q }

/-- Replace a drive's sweep direction. -/
def State.setSweep (s : State) (d : Drive) (x : Direction) : State :=
  s.setDrive d { s.drive d with sweep := x }

/-- Replace a drive's spindle state. -/
def State.setSpindle (s : State) (d : Drive) (x : Spindle) : State :=
  s.setDrive d { s.drive d with spindle := x }

/-- Replace a drive's head state. -/
def State.setHead (s : State) (d : Drive) (x : Head) : State :=
  s.setDrive d { s.drive d with head := x }

/-- Replace a drive's statistics. -/
def State.setStats (s : State) (d : Drive) (x : Stats) : State :=
  s.setDrive d { s.drive d with stats := x }

/-- A raise of a counter: one more, and 65535 stays (R53). -/
def bump (n : Nat) : Nat := if n < 65535 then n + 1 else n

/-- Raise the sectors read counter (R54). -/
def State.raiseSectorsRead (s : State) (d : Drive) : State :=
  s.setStats d { (s.drive d).stats with sectorsRead := bump (s.drive d).stats.sectorsRead }

/-- Raise the sectors written counter (R54). -/
def State.raiseSectorsWritten (s : State) (d : Drive) : State :=
  s.setStats d { (s.drive d).stats with sectorsWritten := bump (s.drive d).stats.sectorsWritten }

/-- Raise the failed attempts counter (R55). -/
def State.raiseFailedAttempts (s : State) (d : Drive) : State :=
  s.setStats d { (s.drive d).stats with failedAttempts := bump (s.drive d).stats.failedAttempts }

/-- Raise the misses counter (R55). -/
def State.raiseMisses (s : State) (d : Drive) : State :=
  s.setStats d { (s.drive d).stats with misses := bump (s.drive d).stats.misses }

/-- Raise the recalibrations counter (R55). -/
def State.raiseRecalibrations (s : State) (d : Drive) : State :=
  s.setStats d { (s.drive d).stats with recalibrations := bump (s.drive d).stats.recalibrations }

/-! ### Tag records -/

/-- A tag's record. -/
def State.tag (s : State) (t : TagNo) : TagState := s.tags[t]

/-- Replace a tag's record. -/
def State.setTag (s : State) (t : TagNo) (x : TagState) : State := { s with tags := s.tags.set t x }

/-- Replace every tag's record. -/
def State.mapTags (s : State) (f : TagNo → TagState → TagState) : State :=
  { s with tags := Vector.ofFn fun t => f t s.tags[t] }

/-- The request a tag holds, absent when FREE (Table 1-1). -/
def TagState.request? : TagState → Option Request
  | .free => none
  | .queued r _ => some r
  | .active r _ _ _ => some r
  | .done r _ => some r
  | .sending r _ _ => some r
  | .held r _ => some r

/-- The passed count of a tag QUEUED or ACTIVE (Table 1-1). -/
def TagState.passed : TagState → Nat
  | .queued _ p => p
  | .active _ p _ _ => p
  | _ => 0

/-- The buffer a request is bound to (Table 1-1, R127). -/
def Work.buffer? : Work → Option BufNo
  | .read _ b _ => some b
  | .write _ _ b _ _ => some b
  | _ => none

/-- The track a request works at: its track, a SEEK's target, track 0 for RECAL (R37). -/
def Work.track : Work → Nat
  | .read a _ _ => a.track
  | .write a _ _ _ _ => a.track
  | .verify a _ => a.track
  | .format t _ _ => t
  | .seek t => t
  | _ => 0

/-- The side a request's pass selects (R97). -/
def Work.side : Work → Nat
  | .read a _ _ => a.side
  | .write a _ _ _ _ => a.side
  | .verify a _ => a.side
  | .format _ side _ => side
  | _ => 0

/-- The kind code of a request (Table 12-2). -/
def Work.kindCode : Work → Byte
  | .define => 0x02
  | .query _ _ => 0x03
  | .read _ _ _ => 0x10
  | .write _ _ _ _ _ => 0x11
  | .verify _ _ => 0x12
  | .format _ _ _ => 0x13
  | .seek _ => 0x14
  | .recal => 0x15

/-- Change the retry fields of a READ, WRITE or VERIFY; the other kinds have none (Table 1-1). -/
def Work.setLadder (w : Work) (l : Ladder) : Work :=
  match w with
  | .read a b _ => .read a b l
  | .write a v b _ due => .write a v b l due
  | .verify a _ => .verify a l
  | w => w

/-- The retry fields of a READ, WRITE or VERIFY (Table 1-1). -/
def Work.ladder? : Work → Option Ladder
  | .read _ _ l => some l
  | .write _ _ _ l _ => some l
  | .verify _ l => some l
  | _ => none

/-- Set or clear the check-due mark of a WRITE (R106). -/
def Work.setCheckDue (w : Work) (due : Bool) : Work :=
  match w with
  | .write a v b l _ => .write a v b l due
  | w => w

/-- What the tag's request works on, if the tag is not FREE. -/
def State.work? (s : State) (t : TagNo) : Option Work := (s.tag t).request?.map (·.work)

/-- The tag is ACTIVE with a request for the drive. -/
def TagState.activeOn (x : TagState) (d : Drive) : Bool :=
  match x with
  | .active r _ _ _ => r.drive == d
  | _ => false

/-- The drive's ACTIVE request (R30). -/
def State.activeTag (s : State) (d : Drive) : Option TagNo :=
  (List.finRange 16).find? fun t => (s.tag t).activeOn d

/-- Move an ACTIVE request to a phase (R3, R4). -/
def State.setPhase (s : State) (t : TagNo) (ph : Phase) : State :=
  match s.tag t with
  | .active r p _ m => s.setTag t (.active r p ph m)
  | _ => s

/-- Change the request of an ACTIVE tag (R4). -/
def State.onActive (s : State) (t : TagNo) (f : Request → Request) : State :=
  match s.tag t with
  | .active r p ph m => s.setTag t (.active (f r) p ph m)
  | _ => s

/-! ### Buffers -/

/-- A sector buffer. -/
def State.buffer (s : State) (b : BufNo) : Buffer := s.buffers[b]

/-- Replace a sector buffer. -/
def State.setBuffer (s : State) (b : BufNo) (x : Buffer) : State :=
  { s with buffers := s.buffers.set b x }

/-- Replace every sector buffer. -/
def State.mapBuffers (s : State) (f : BufNo → Buffer → Buffer) : State :=
  { s with buffers := Vector.ofFn fun b => f b s.buffers[b] }

/-- Bind a buffer; its contents stay (R128, R129). -/
def State.bindBuffer (s : State) (b : BufNo) (x : Binding) : State :=
  s.setBuffer b { s.buffer b with binding := x }

/-- Fill a buffer; its binding stays (R129). -/
def State.fillBuffer (s : State) (b : BufNo) (x : Block) : State :=
  s.setBuffer b { s.buffer b with contents := x }

/-- Free the buffer of a request or a pass, if it has one (R131, R133). -/
def State.freeBuffer (s : State) : Option BufNo → State
  | some b => s.bindBuffer b .free
  | none => s

/-- The lowest-numbered free buffer (R128). -/
def State.lowestFree (s : State) : Option BufNo :=
  (List.finRange 8).find? fun b => (s.buffer b).binding == .free

/-- A tag becomes FREE, and its buffer is freed in the same happening (R24, R131). -/
def State.freeTag (s : State) (t : TagNo) : State :=
  (s.freeBuffer ((s.work? t).bind Work.buffer?)).setTag t .free

/-! ### The transmit list -/

/-- The entry is a NOTICE. -/
def Entry.isNotice : Entry → Bool
  | .notice _ _ _ _ => true
  | _ => false

/-- The entry is a STARTED entry. -/
def Entry.isStarted : Entry → Bool
  | .started _ => true
  | _ => false

/-- The entry is the EVENT entry of a drive. -/
def Entry.isEventOf (d : Drive) : Entry → Bool
  | .event e _ => e == d
  | _ => false

/-- The entry is an EVENT entry. -/
def Entry.isEvent : Entry → Bool
  | .event _ _ => true
  | _ => false

/-- The number of NOTICE entries held (R137). -/
def noticeCount (l : List Entry) : Nat := l.countP Entry.isNotice

/-- Replace the transmit list; STALL follows the number of NOTICE entries, asserted while fewer than two
of the five slots are free (R139). -/
def State.setList (s : State) (l : List Entry) : State :=
  { s with list := l, stall := decide (4 ≤ noticeCount l) }

/-- An entry joins the list at the tail (R135). -/
def State.listEntry (s : State) (e : Entry) : State := s.setList (s.list ++ [e])

/-- A more count raised by one; 255 stays (R137). -/
def raiseMore (n : Nat) : Nat := if n < 255 then n + 1 else n

/-- Raise the more count of the NOTICE listed last (R137). -/
def raiseNewest : List Entry → List Entry
  | [] => []
  | e :: rest =>
    if rest.any Entry.isNotice then e :: raiseNewest rest
    else match e with
      | .notice r k t m => .notice r k t (raiseMore m) :: rest
      | e => e :: rest

/-- A refusal or link fault lists a NOTICE, or raises the newest one's more count when five are held
(R137). -/
def State.addNotice (s : State) (r : Reason) (kind tag : Byte) : State :=
  if noticeCount s.list < Config.noticeSlots then s.listEntry (.notice r kind tag 0)
  else s.setList (raiseNewest s.list)

/-- A message is refused: a NOTICE with the kind and tag bytes as received (R12). -/
def State.refuse (s : State) (r : Reason) (f : Frame) : State := s.addNotice r f.kind f.tag

/-- An event joins the pending set of an entry of its drive (R136). -/
def Entry.mergeEvent (d : Drive) (ev : DriveEvent) : Entry → Entry
  | .event e set => if e = d then .event e (set.insert ev) else .event e set
  | e => e

/-- An event of a drive merges into its waiting EVENT entry, or lists a new one (R76, R136). -/
def State.raiseEvent (s : State) (d : Drive) (ev : DriveEvent) : State :=
  if s.list.any (Entry.isEventOf d) then s.setList (s.list.map (Entry.mergeEvent d ev))
  else s.listEntry (.event d (.single ev))

/-- Withdraw a tag's REPLY entry (R24, R144). -/
def State.withdrawReply (s : State) (t : TagNo) : State :=
  s.setList (s.list.filter fun e => e != .reply t)

/-- List an announcement in place of one still waiting (R138). -/
def State.announce (s : State) (a : Announcement) : State :=
  s.setList (s.list.filter (fun e => !e.isStarted) ++ [.started a])

/-! ### Entry to DONE -/

/-- The head as it stands: a track when it is AT it or SETTLING at it, otherwise not known (R171). -/
def HeadState.standing : HeadState → Option Nat
  | .onTrack t => some t
  | .settling t => some t
  | _ => none

/-- The track reached of a SEEK or RECAL at entry to DONE, absent for 0xFF (Table 13-1). -/
def reachedAt (w : Work) (st : Status) (h : HeadState) : Option Nat :=
  match w, st with
  | .seek t, .ok => some t
  | .recal, .ok => some 0
  | .seek _, .seekFail => none
  | .recal, .seekFail => none
  | .seek _, _ => h.standing
  | .recal, _ => h.standing
  | _, _ => none

/-- A request reaches its final status: its tag enters DONE and its REPLY joins the list (R16). -/
def State.finish (s : State) (t : TagNo) (r : Request) (st : Status) : State :=
  (s.setTag t (.done r ⟨st, reachedAt r.work st (s.drive r.drive).head.state⟩)).listEntry (.reply t)

/-- A QUEUED or ACTIVE request reaches its final status (R16). -/
def State.finishTag (s : State) (t : TagNo) (st : Status) : State :=
  match s.tag t with
  | .queued r _ => s.finish t r st
  | .active r _ _ _ => s.finish t r st
  | _ => s

/-- A request ended by its drive's failure: ABORTED if it carries the abort-pending mark, otherwise the
failure's status (R17, R22). -/
def State.failTag (s : State) (t : TagNo) (st : Status) : State :=
  match s.tag t with
  | .active r _ _ true => s.finish t r .aborted
  | _ => s.finishTag t st

/-! ### Commands while the part is held in reset -/

/-- While the part is held in reset nothing is taken (R163). -/
def State.unlessHeld (s : State) (f : State → State) : State :=
  if s.resetHold = none then f s else s

/-- The level inputs as they stand when a command is taken. -/
def State.withLevels (s : State) (lv : Levels) : State := { s with levels := lv }

end Sys2Proof.Machine
end

