-- ==== Sys2Proof/Machine/Compose.lean ====
section
/-! DEFINITION. Composition of outbound frames (R142, R165, R167) and the beginning of a frame (R140). -/

namespace Sys2Proof.Machine

/-- A small number as one byte. -/
def byteOf (n : Nat) : Byte := BitVec.ofNat 8 n

/-- The body of a REPLY from the tag record and the contents of its buffer (Table 12-5). -/
def replyBody (r : Request) (final : Final) (data : BufNo → Block) : List Byte :=
  match r.work with
  | .define => [final.status.code, 0x02, driveCode r.drive]
  | .query _ snapshot => [final.status.code, 0x03] ++ snapshot.bytes
  | .read a b l =>
    [final.status.code, 0x10, driveCode r.drive, byteOf a.track, byteOf a.side, byteOf a.sector,
     byteOf l.attempts]
      ++ (if final.status = .ok ∨ final.status = .dataCheck then (data b).val else [])
  | .write a _ _ l _ =>
    [final.status.code, 0x11, driveCode r.drive, byteOf a.track, byteOf a.side, byteOf a.sector,
     byteOf l.attempts, byteOf r.written]
  | .verify a l =>
    [final.status.code, 0x12, driveCode r.drive, byteOf a.track, byteOf a.side, byteOf a.sector,
     byteOf l.attempts]
  | .format t side _ =>
    [final.status.code, 0x13, driveCode r.drive, byteOf t, byteOf side, byteOf r.written]
  | .seek _ => [final.status.code, 0x14, driveCode r.drive, trackCode final.reached]
  | .recal => [final.status.code, 0x15, driveCode r.drive, trackCode final.reached]

/-- The final status of a tag DONE, SENDING or HELD with its request (Table 1-1). -/
def TagState.final? : TagState → Option (Request × Final)
  | .done r f => some (r, f)
  | .sending r f _ => some (r, f)
  | .held r f => some (r, f)
  | _ => none

/-- The body of the REPLY frame of a tag (R142). -/
def State.replyBytes (s : State) (t : TagNo) : List Byte :=
  match (s.tag t).final? with
  | some (r, f) => replyBody r f fun b => (s.buffer b).contents
  | none => []

/-- The content of an entry's frame, composed from current state under the current session number
(R142, Table 9-2). -/
def State.compose (s : State) : Entry → List Byte
  | .reply t => sealContent (0x83 :: s.session :: byteOf t.val :: s.replyBytes t)
  | .event d set => sealContent [0x84, s.session, 0xFF, driveCode d, set.code]
  | .notice r kind tag more => sealContent [0x85, s.session, tag, r.code, kind, byteOf more]
  | .started a => a.content s.session

/-- The tag whose REPLY an entry is. -/
def Entry.reply? : Entry → Option TagNo
  | .reply t => some t
  | _ => none

/-- The tag of a REPLY whose frame begins goes from DONE to SENDING, its release-pending mark clear
(R23). -/
def State.startSending (s : State) : Option TagNo → State
  | some t =>
    match s.tag t with
    | .done r f => s.setTag t (.sending r f false)
    | _ => s
  | none => s

/-- The transmitter takes the entry at the head of the list, composes its content and sends its characters
with marks and escapes (R140, R142, R147, R149). -/
def State.send (s : State) (e : Entry) (rest : List Entry) : State :=
  { (s.setList rest).startSending e.reply? with
    tx := some ⟨e.reply?, characters (lineBytes (s.compose e))⟩ }

/-- A frame begins when the transmitter is idle, HOLD is not asserted and the list is not empty (R140);
none begins while the part is held in reset (R163). -/
def State.beginFrame (s : State) : State :=
  if s.tx = none ∧ s.hold = false ∧ s.resetHold = none then
    match s.list with
    | e :: rest => s.send e rest
    | [] => s
  else s

end Sys2Proof.Machine
end

