-- ==== Sys2Proof/Machine/Positioner.lean ====
section
/-! DEFINITION. The drive bus lines (R94), the motions of the Head Positioners (Chapter 5) and the STEP
grants of the Drive Bus Arbiter (R95, R96). -/

namespace Sys2Proof.Machine

/-! ### The bus and its lines -/

/-- The select lines for a holder: its own asserted, the other deasserted (R94). -/
def selectLines : Drive → Pair Bool
  | .d0 => ⟨true, false⟩
  | .d1 => ⟨false, true⟩

/-- A hold is granted: the holder, the alternation memory and the select lines (R95, R97). -/
def State.holdBus (s : State) (d : Drive) (k : HoldKind) : State :=
  { s with bus := { s.bus with holder := some ⟨d, k⟩, alternation := some d },
           port := { s.port with sel := selectLines d } }

/-- A hold is released: the holder becomes NONE and the lines take their idle levels (R94, R101). -/
def State.releaseBus (s : State) : State :=
  { s with bus := { s.bus with holder := none },
           port := { s.port with sel := ⟨false, false⟩, wgate := false, comp := false, wdata := [] } }

/-- The reservation is cleared if it names the drive (R100). -/
def State.clearReservation (s : State) (d : Drive) : State :=
  if s.bus.reservation = some d then { s with bus := { s.bus with reservation := none } } else s

/-- The reservation bars a drive from any grant: it names the other drive (R100). -/
def State.barred (s : State) (d : Drive) : Bool := s.bus.reservation == some d.other

/-- Set DIR (R84). -/
def State.setDir (s : State) (x : Direction) : State := { s with port := { s.port with dir := x } }

/-- One pulse on STEP toward a drive; the step timer starts for its step interval (R85, R86). -/
def State.stepPulse (s : State) (d : Drive) : State :=
  let s := { s with port := { s.port with steps := s.port.steps.set d (s.port.steps.get d + 1) } }
  s.setHead d { (s.drive d).head with stepTimer := some (10 * (s.geometry d).stepInterval) }

/-! ### Motions -/

/-- A motion is ordered for an ACTIVE request: the motion record in stage WAITING and the phase POSITION
(R83). The STEP need it raises waits for the grants at the end of the happening (R95, R96). -/
def State.orderMotion (s : State) (d : Drive) (t : TagNo) (k : MotionKind) (target : Nat) : State :=
  (s.setHead d { (s.drive d).head with motion := some ⟨k, target, .tag t, .waiting, 0⟩ }).setPhase t
    .position

/-- Move the owner of a motion to a phase (R4). -/
def State.ownerPhase (s : State) (o : Owner) (ph : Phase) : State :=
  match o with
  | .tag t => s.setPhase t ph
  | .detached => s

/-- Stepping ends without a fault: the STEP hold is released, the settle timer starts, and the owner's
phase becomes SETTLE (R87). -/
def State.endStepping (s : State) (d : Drive) (m : Motion) : State :=
  let h := (s.drive d).head
  let s := s.releaseBus
  let s := s.setHead d
    { h with
      state := .settling m.target
      motion := some { m with stage := .settling }
      stepTimer := none
      settleTimer := some (10 * (s.geometry d).settleTime) }
  s.ownerPhase m.owner .settle

/-- The direction from a track toward a target (R84). -/
def directionTo (p target : Nat) : Direction := if p < target then .inward else .outward

/-- The running position one track nearer the target (R85). -/
def nearer (p target : Nat) : Nat := if p < target then p + 1 else p - 1

/-- A seek at running position `p`: stepping ends at the target, otherwise one more pulse (R85). -/
def State.seekStep (s : State) (d : Drive) (m : Motion) (p : Nat) : State :=
  if p = m.target then s.endStepping d m
  else (s.setHead d { (s.drive d).head with running := some (nearer p m.target) }).stepPulse d

/-- A seek starts at running position `p`, with DIR toward its target (R84, R85, R86). -/
def State.beginSeek (s : State) (d : Drive) (m : Motion) (p : Nat) : State :=
  if p = m.target then s.endStepping d m else (s.setDir (directionTo p m.target)).seekStep d m p

/-- The owner of a motion that fails ends SEEK_FAIL (R88). -/
def State.failOwner (s : State) : Owner → State
  | .tag t =>
    match s.tag t with
    | .active r _ _ _ => s.finish t r .seekFail
    | _ => s
  | .detached => s

/-- A recalibration fails: the event, the release of the hold, a lost head, and the owner's SEEK_FAIL
(R88, R135). -/
def State.headFault (s : State) (d : Drive) (m : Motion) : State :=
  (((s.raiseEvent d .headFault).releaseBus).setHead d .lost).failOwner m.owner

/-- A recalibration has found track 0: the running position becomes 0, and stepping ends or the seek part
begins under the same hold (R86). -/
def State.trackZeroFound (s : State) (d : Drive) (m : Motion) : State :=
  (s.setHead d { (s.drive d).head with running := some 0 }).beginSeek d m 0

/-- A recalibration steps outward once more (R86). -/
def State.recalStep (s : State) (d : Drive) (m : Motion) : State :=
  (s.setHead d { (s.drive d).head with motion := some { m with stepCount := m.stepCount + 1 } }).stepPulse d

/-- A recalibration samples TRK0n: track 0 found, one more step outward, or HEAD_FAULT after T + 8 steps
(R86, R88). -/
def State.trk0Check (s : State) (d : Drive) (m : Motion) : State :=
  if s.levels.trk0.get d then s.trackZeroFound d m
  else if m.stepCount < (s.geometry d).tracks + 8 then s.recalStep d m
  else s.headFault d m

/-! ### STEP grants -/

/-- A STEP need of the drive waits (R93). -/
def State.stepNeed (s : State) (d : Drive) : Bool :=
  (s.drive d).head.motion.any fun m => m.stage == .waiting

/-- The STEP need of a drive is granted: the motion becomes STEPPING, the head MOVING (R84, R95). -/
def State.grantStep (s : State) (d : Drive) : State :=
  match (s.drive d).head.motion with
  | none => s
  | some m =>
    let m := { m with stage := .stepping }
    let s := s.holdBus d .step
    let h := { (s.drive d).head with motion := some m, state := .moving m.target }
    match m.kind, h.running with
    | .seek, some p => (s.setHead d h).beginSeek d m p
    | _, _ =>
      (((s.setHead d { h with running := none }).raiseRecalibrations d).setDir .outward).trk0Check d m

/-- The STEP need of a drive can be granted: it waits and the reservation does not bar it (R96). -/
def State.grantable (s : State) (d : Drive) : Bool := s.stepNeed d && !s.barred d

/-- The drive whose need is granted among those that can be: the only one, or of both the one the
alternation memory does not name, drive 0 when it is NONE (R96). -/
def State.nextGrant (s : State) : Option Drive :=
  match s.grantable .d0, s.grantable .d1 with
  | false, false => none
  | true, false => some .d0
  | false, true => some .d1
  | true, true => if s.bus.alternation = some .d0 then some .d1 else some .d0

/-- A free bus is granted to a waiting STEP need that can be granted (R95, R96). -/
def State.grantOne (s : State) : State :=
  if s.bus.holder = none then
    match s.nextGrant with
    | some d => s.grantStep d
    | none => s
  else s

/-- The grants at the end of a happening, after the stages of the happening are complete (R96). A
recalibration granted with TRK0n asserted can release the bus at once (R86, R87), and the other drive's
need is then granted in turn; each drive has at most one need (R81). -/
def State.arbitrate (s : State) : State := s.grantOne.grantOne

end Sys2Proof.Machine
end

