-- ==== Sys2Proof/Machine/Scheduler.lean ====
section
/-! DEFINITION. The orders that start and stop a spindle (R63, R77, R79, R80) and the Scheduler: waits,
the selection rule, decisions, overtaking and the acceptance at a drive (Chapter 2). -/

namespace Sys2Proof.Machine

/-! ### Spindle orders -/

/-- A spin-up starts (R63). The spin-up limit is in tenths of a second, 1000 units of 0.1 ms each. -/
def State.startSpinUp (s : State) (d : Drive) : State :=
  s.setSpindle d
    { motor := true, condition := .starting, media := .unknown, position := .unknown, period := none,
      revCount := none, measure := some ⟨false, none, 0⟩,
      spinUpTimer := some (1000 * (s.geometry d).spinUpLimit), watchdog := none, runOnTimer := none }

/-- The motor stops with a media knowledge, every timer of the spindle stopped (R73, R79). -/
def State.stopSpindle (s : State) (d : Drive) (m : Media) : State :=
  s.setSpindle d (.still .stopped m)

/-- The run-on timer is cancelled (R78). -/
def State.cancelRunOn (s : State) (d : Drive) : State :=
  s.setSpindle d { (s.drive d).spindle with runOnTimer := none }

/-! ### Free and idle drives -/

/-- A detached head motion runs on the drive (R30). -/
def State.detachedMotion (s : State) (d : Drive) : Bool :=
  (s.drive d).head.motion.any fun m => m.owner == .detached

/-- A detached pass runs on the drive (R30). -/
def State.detachedPass (s : State) (d : Drive) : Bool :=
  s.pass.any fun p => p.drive == d && p.owner == .detached

/-- The drive is free: no ACTIVE request, no detached motion and no detached pass (R30). -/
def State.isFree (s : State) (d : Drive) : Bool :=
  (s.activeTag d).isNone && !s.detachedMotion d && !s.detachedPass d

/-- The drive's motor is TURNING. -/
def State.isTurning (s : State) (d : Drive) : Bool := (s.drive d).spindle.condition == .turning

/-- The drive is idle (R11). -/
def State.isIdle (s : State) (d : Drive) : Bool :=
  (s.drive d).queue.isEmpty && s.isFree d && (s.drive d).spindle.condition != .starting

/-- Run-on starts when the drive is free with an empty queue while TURNING and no run-on runs; with a
run-on value of 0 the motor stops at once (R77, R79, R80). -/
def State.runOnIfDue (s : State) (d : Drive) : State :=
  if s.isFree d && s.isTurning d && (s.drive d).queue.isEmpty
      && (s.drive d).spindle.runOnTimer.isNone then
    if (s.geometry d).runOn = 0 then s.stopSpindle d .unknown
    else s.setSpindle d { (s.drive d).spindle with runOnTimer := some (1000 * (s.geometry d).runOn) }
  else s

/-! ### Waits -/

/-- An index or sector pulse. -/
inductive Pulse where
  | index
  | sector (n : Nat)
  deriving DecidableEq, Repr

/-- The starting pulse of a request (R36, R97); SEEK and RECAL have none. -/
def Work.startingPulse : Work → Option Pulse
  | .read a _ _ => some (.sector a.sector)
  | .write a _ _ _ _ => some (.sector a.sector)
  | .verify a _ => some (.sector a.sector)
  | .format _ _ _ => some .index
  | _ => none

/-- The wait for a starting pulse from a rotational position, with S sectors (Table 2-3). While the motor
is TURNING the position is never UNKNOWN. -/
def waitFor (pos : Position) (sectors : Nat) (start : Pulse) : Nat :=
  match pos, start with
  | .index, .sector k => k + 1
  | .index, .index => sectors + 1
  | .sector n, .sector k => if n < k then k - n else sectors - n + 1 + k
  | .sector n, .index => sectors - n
  | .unknown, _ => 0

/-- The wait of a request on a drive from the drive's current position (R36). -/
def State.waitOf (s : State) (d : Drive) (w : Work) : Nat :=
  match w.startingPulse with
  | some p => waitFor (s.drive d).spindle.position (s.geometry d).sectors p
  | none => 0

/-! ### The selection rule -/

/-- The first member with the least cost: the oldest among equals (R36). -/
def leastBy (cost : TagNo → Nat) : List TagNo → Option TagNo
  | [] => none
  | t :: rest =>
    match leastBy cost rest with
    | none => some t
    | some u => if cost u < cost t then some u else some t

/-- A member chosen, with the sweep direction the choice leaves (R37, R41). -/
structure Choice where
  tag : TagNo
  sweep : Direction
  deriving DecidableEq, Repr

/-- The request is a SEEK to the track (R35). -/
def Work.isSeekTo (k : Nat) : Work → Bool
  | .seek t => t == k
  | _ => false

/-- The request is a READ, WRITE, VERIFY or FORMAT for the track (R36). -/
def Work.transfersOn (k : Nat) (w : Work) : Bool := w.startingPulse.isSome && w.track == k

/-- The track of a member for the sweep step (R37). -/
def State.trackOf (s : State) (t : TagNo) : Nat := ((s.work? t).map Work.track).getD 0

/-- Step 1, aging: the oldest member at the age limit, unless the limit is 0 (R34). -/
def State.chooseAging (s : State) (d : Drive) : Option TagNo :=
  if (s.geometry d).ageLimit = 0 then none
  else (s.drive d).queue.find? fun t => (s.tag t).passed == (s.geometry d).ageLimit

/-- Step 2, same-track SEEK: the oldest SEEK to the current track (R35). -/
def State.chooseSameSeek (s : State) (d : Drive) (k : Nat) : Option TagNo :=
  (s.drive d).queue.find? fun t => (s.work? t).any (Work.isSeekTo k)

/-- Step 3, rotational choice: the transfer on the current track whose starting pulse comes first
(R36). -/
def State.chooseRotational (s : State) (d : Drive) (k : Nat) : Option TagNo :=
  leastBy (fun t => ((s.work? t).map (s.waitOf d)).getD 0)
    ((s.drive d).queue.filter fun t => (s.work? t).any (Work.transfersOn k))

/-- A track lies beyond the current one in a direction (R37). -/
def Direction.beyond (x : Direction) (k t : Nat) : Bool :=
  match x with
  | .inward => decide (k < t)
  | .outward => decide (t < k)

/-- The opposite direction. -/
def Direction.reverse : Direction → Direction
  | .inward => .outward
  | .outward => .inward

/-- How far two tracks lie apart. -/
def apart (a b : Nat) : Nat := (a - b) + (b - a)

/-- The oldest member at the nearest track beyond the current one in a direction (R37). -/
def State.nearestBeyond (s : State) (d : Drive) (k : Nat) (x : Direction) : Option TagNo :=
  leastBy (fun t => apart (s.trackOf t) k)
    ((s.drive d).queue.filter fun t => x.beyond k (s.trackOf t))

/-- Step 4, sweep: the current track, then the sweep direction, then the other direction with a reversal
(R37). -/
def State.chooseSweep (s : State) (d : Drive) (k : Nat) : Option Choice :=
  let x := (s.drive d).sweep
  match (s.drive d).queue.find? fun t => s.trackOf t == k with
  | some t => some ⟨t, x⟩
  | none =>
    match s.nearestBeyond d k x with
    | some t => some ⟨t, x⟩
    | none => (s.nearestBeyond d k x.reverse).map fun t => ⟨t, x.reverse⟩

/-- Steps 2 to 4, for a head AT a track (Table 2-2). -/
def State.chooseAt (s : State) (d : Drive) (k : Nat) : Option Choice :=
  match s.chooseSameSeek d k with
  | some t => some ⟨t, (s.drive d).sweep⟩
  | none =>
    match s.chooseRotational d k with
    | some t => some ⟨t, (s.drive d).sweep⟩
    | none => s.chooseSweep d k

/-- The selection rule (R33). The head of a free drive is AT a track or UNKNOWN (R30); with an UNKNOWN
head the oldest member is chosen (R38). -/
def State.choose (s : State) (d : Drive) : Option Choice :=
  match s.chooseAging d with
  | some t => some ⟨t, (s.drive d).sweep⟩
  | none =>
    match (s.drive d).head.state with
    | .onTrack k => s.chooseAt d k
    | _ => (s.drive d).queue.head?.map fun t => ⟨t, (s.drive d).sweep⟩

/-! ### Decisions -/

/-- What a chosen request starts with (Table 2-4). -/
inductive FirstStep where
  | complete
  | rotate
  | order (kind : MotionKind) (target : Nat)
  deriving DecidableEq, Repr

/-- The first step of a chosen request by its kind and the head state (R39, Table 2-4). -/
def firstStep (w : Work) (h : HeadState) : FirstStep :=
  match w, h with
  | .recal, _ => .order .recal 0
  | .seek k, .onTrack t => if t = k then .complete else .order .seek k
  | w, .onTrack t => if t = w.track then .rotate else .order .seek w.track
  | w, _ => .order .recalThenSeek w.track

/-- A chosen QUEUED request becomes ACTIVE (R39); a SEEK to the current track completes at once (R35). -/
def State.activate (s : State) (d : Drive) (t : TagNo) : State :=
  match s.tag t with
  | .queued r p =>
    match firstStep r.work (s.drive d).head.state with
    | .complete => s.finish t r .ok
    | .rotate => s.setTag t (.active r p .rotate false)
    | .order k target => (s.setTag t (.active r p .position false)).orderMotion d t k target
  | _ => s

/-- A passed count raised by one, up to the age limit (R40). -/
def age (limit p : Nat) : Nat := if p = limit then p else p + 1

/-- The passed counts of the members still in the queue rise (R40). -/
def State.raisePassed (s : State) (d : Drive) : State :=
  s.mapTags fun t x =>
    match x with
    | .queued r p =>
      if t ∈ (s.drive d).queue then .queued r (age (s.geometry d).ageLimit p) else .queued r p
    | x => x

/-- A tag leaves its drive's queue; the others keep their order (R27). -/
def State.leaveQueue (s : State) (d : Drive) (t : TagNo) : State :=
  s.setQueue d ((s.drive d).queue.filter fun u => u != t)

/-- One decision: the choice, its departure from the queue, the sweep direction, the passed counts, and
the chosen request's start (R31, R33, R39, R40). -/
def State.decide1 (s : State) (d : Drive) : State :=
  match s.choose d with
  | some c => (((s.leaveQueue d c.tag).setSweep d c.sweep).raisePassed d).activate d c.tag
  | none => s

/-- Decisions follow one another while the drive is free and TURNING with members in its queue (R31, R35);
each takes one member out, so the queue's length bounds their number. -/
def State.decisions (s : State) (d : Drive) : Nat → State
  | 0 => s
  | n + 1 =>
    if s.isFree d && s.isTurning d && !(s.drive d).queue.isEmpty then (s.decide1 d).decisions d n
    else s

/-- What follows at a drive that may have become free: decisions while its queue has members, otherwise
run-on (R31, R77). -/
def State.afterFree (s : State) (d : Drive) : State :=
  (s.decisions d (s.drive d).queue.length).runOnIfDue d

/-! ### Overtaking and acceptance -/

/-- The kinds that overtake and are overtaken (R42). -/
def Work.isSectorWork : Work → Bool
  | .read _ _ _ => true
  | .write _ _ _ _ _ => true
  | .verify _ _ => true
  | _ => false

/-- The overtaking test of a newcomer against the ACTIVE request in ROTATE (R42). -/
def State.overtakes (s : State) (d : Drive) (new : Request) (newTag : TagNo) (act : Request)
    (passed : Nat) : Bool :=
  new.work.isSectorWork && act.work.isSectorWork
    && new.work.track == act.work.track
    && decide (s.waitOf d new.work < s.waitOf d act.work)
    && decide (passed < (s.geometry d).ageLimit)
    && ((s.drive d).queue.filter fun t => t != newTag).all fun t =>
        (s.tag t).passed != (s.geometry d).ageLimit

/-- The stamp of a tag's request. -/
def State.stampOf (s : State) (t : TagNo) : Nat := ((s.tag t).request?.map (·.stamp)).getD 0

/-- Put a tag into a queue at the place its arrival stamp gives (R27, R43). -/
def insertByStamp (stamp : TagNo → Nat) (t : TagNo) : List TagNo → List TagNo
  | [] => [t]
  | u :: rest => if stamp t < stamp u then t :: u :: rest else u :: insertByStamp stamp t rest

/-- The newcomer overtakes: the ACTIVE request returns to the queue with its passed count raised, the
newcomer becomes ACTIVE in ROTATE with count 0, and a reservation naming the drive is cleared (R43). -/
def State.overtake (s : State) (d : Drive) (new : Request) (newTag : TagNo) (act : Request)
    (actTag : TagNo) (passed : Nat) : State :=
  let s := s.leaveQueue d newTag
  let s := s.setTag actTag (.queued act (passed + 1))
  let s := s.setQueue d (insertByStamp s.stampOf actTag (s.drive d).queue)
  (s.setTag newTag (.active new 0 .rotate false)).clearReservation d

/-- The overtaking test at an acceptance for a drive whose ACTIVE request may be in ROTATE (R42). -/
def State.tryOvertake (s : State) (d : Drive) (newTag : TagNo) : State :=
  match s.activeTag d with
  | none => s
  | some actTag =>
    match s.tag newTag, s.tag actTag with
    | .queued new _, .active act passed .rotate _ =>
      if s.overtakes d new newTag act passed then s.overtake d new newTag act actTag passed else s
    | _, _ => s

/-- What follows an acceptance at the drive (R14, Table 2-1). -/
def State.acceptedAt (s : State) (d : Drive) (t : TagNo) : State :=
  match (s.drive d).spindle.condition with
  | .stopped => s.startSpinUp d
  | .turning => if s.isFree d then (s.cancelRunOn d).afterFree d else s.tryOvertake d t
  | .starting => s
  | .undefined => s

/-- Acceptance of a queued kind: the tag record is filled, the tag is QUEUED at the tail of its drive's
queue, and the acceptance is a happening at the drive (R14, R27, R28). -/
def State.enqueue (s : State) (d : Drive) (t : TagNo) (w : Work) : State :=
  let r : Request := ⟨w, d, s.session, s.nextStamp, 0⟩
  let s := { s with nextStamp := s.nextStamp + 1 }
  let s := s.setTag t (.queued r 0)
  (s.setQueue d ((s.drive d).queue ++ [t])).acceptedAt d t

end Sys2Proof.Machine
end

