-- ==== Sys2Proof/Machine/Engine.lean ====
section
/-! DEFINITION. The Sector Engine: sector records, the beginning and the end of passes, the retry ladder
and format revolutions (Chapter 7), with the PASS grants and misses of the Arbiter (R97, R98, R99). -/

namespace Sys2Proof.Machine

/-! ### The sector record and the gate -/

/-- The ID byte of side and sector (R103). -/
def sideSectorByte (side sector : Nat) : Byte := BitVec.ofNat 8 (side * 32 + sector)

/-- The two ID bytes of a record (R103). -/
def idBytes (track side sector : Nat) : List Byte :=
  [BitVec.ofNat 8 track, sideSectorByte side sector]

/-- A sector record: preamble, sync mark, ID, data and media check (R103, R104, Table 12-10). -/
def sectorRecord (track side sector : Nat) (data : List Byte) : List Byte :=
  List.replicate 10 0x55 ++ [0x3C, 0x5A] ++ idBytes track side sector ++ data
    ++ word16Bytes (mediaCheck (idBytes track side sector ++ data))

/-- The gate opens: WGATE, COMP on a track at or above the compensation track, and the record on WDATA, most
significant bit first (R111, R115, R170). -/
def State.openGate (s : State) (d : Drive) (track : Nat) (record : List Byte) : State :=
  { s with port :=
      { s.port with
        wgate := true, comp := decide ((s.geometry d).compTrack ≤ track), wdata := mediaBits record } }

/-- The gate closes: WGATE and COMP are deasserted and WDATA is idle (R112, R115). -/
def State.closeGate (s : State) : State :=
  { s with port := { s.port with wgate := false, comp := false, wdata := [] } }

/-- The current sector of a format revolution begins (R115 step 3). -/
def State.beginFormatSector (s : State) (p : Pass) (fill : Byte) (completed : Nat) (n : Nat) : State :=
  { s.openGate p.drive p.track (sectorRecord p.track p.side n (List.replicate 256 fill)) with
    pass := some { p with body := .formatting fill (some ⟨n, .gateOpen⟩) completed false } }

/-! ### The beginning of a pass -/

/-- A write pass is due, or a format revolution: the grant samples WPROTn (R99). -/
def Work.writesMedia : Work → Bool
  | .write _ _ _ _ due => !due
  | .format _ _ _ => true
  | _ => false

/-- The pass of a request, as it begins (R106, R108, R111, R114, R115). -/
def passOf (t : TagNo) (r : Request) : Option Pass :=
  match r.work with
  | .read a b _ =>
    some ⟨r.drive, a.track, a.side, .tag t, some b, .reading false a.sector .searching⟩
  | .verify a _ =>
    some ⟨r.drive, a.track, a.side, .tag t, none, .reading false a.sector .searching⟩
  | .write a _ b _ true =>
    some ⟨r.drive, a.track, a.side, .tag t, some b, .reading true a.sector .searching⟩
  | .write a _ b _ false =>
    some ⟨r.drive, a.track, a.side, .tag t, some b, .writing a.sector .gateOpen⟩
  | .format track side fill =>
    some ⟨r.drive, track, side, .tag t, none, .formatting fill none 0 false⟩
  | _ => none

/-- A pass begins; a write pass opens the gate with its record (R106, R111). -/
def State.beginPass (s : State) (p : Pass) : State :=
  let s := { s with pass := some p }
  match p.body, p.buffer with
  | .writing n _, some b =>
    s.openGate p.drive p.track (sectorRecord p.track p.side n (s.buffer b).contents.val)
  | _, _ => s

/-- A PASS need is granted (R97): the hold, the alternation memory, a reservation naming the drive
cleared, SIDE, and the phase PASS. -/
def State.grantPass (s : State) (d : Drive) (t : TagNo) (r : Request) : State :=
  let s := (s.holdBus d .pass).clearReservation d
  { s with port := { s.port with side := r.work.side == 1 } }.setPhase t .pass

/-- A grant refused by the write-protect sample: the hold is released and the request ends
WRITE_PROTECTED (R99). -/
def State.writeProtected (s : State) (t : TagNo) : State := s.releaseBus.finishTag t .writeProtected

/-- A PASS need misses: the counter, and the reservation when it is NONE (R98). -/
def State.miss (s : State) (d : Drive) : State :=
  let s := s.raiseMisses d
  if s.bus.reservation = none then { s with bus := { s.bus with reservation := some d } } else s

/-- A PASS need is judged at its starting pulse (R97, R98, R99). -/
def State.passNeed (s : State) (d : Drive) (t : TagNo) (r : Request) : State :=
  if s.bus.holder = none ∧ s.barred d = false then
    let s := s.grantPass d t r
    if r.work.writesMedia && s.levels.wprot.get d then s.writeProtected t
    else match passOf t r with
      | some p => s.beginPass p
      | none => s
  else s.miss d

/-! ### The retry ladder -/

/-- The final status of an outcome (R117 step 4). -/
def Outcome.status : Outcome → Status
  | .ok => .ok
  | .written => .ok
  | .noSync => .noSync
  | .idMismatch => .idMismatch
  | .dataCheck => .dataCheck
  | .verifyMismatch => .verifyMismatch

/-- The retry fields after a failed attempt (R117 steps 1 and 2). -/
def Ladder.fail (l : Ladder) (o : Outcome) : Ladder :=
  { l with
    attempts := l.attempts + 1
    idRun := if o = .idMismatch then (if l.idRun < 2 then l.idRun + 1 else 2) else 0 }

/-- The retry fields after the ladder's own recalibration is ordered (R119). -/
def Ladder.recalibrate (l : Ladder) : Ladder := { l with idRun := 0, recalibrated := true }

/-- The ladder has used up its attempts (R117 step 4). -/
def Ladder.spent (l : Ladder) (g : DriveRecord) : Bool := l.attempts == 1 + g.retryLimit

/-- Two ID mismatches in a row and no recalibration yet (R117 step 5). -/
def Ladder.lost (l : Ladder) : Bool := l.idRun == 2 && !l.recalibrated

/-- A failed outcome reaches an owned request (R117, R118, R119). -/
def State.failAttempt (s : State) (t : TagNo) (r : Request) (check : Bool) (o : Outcome) : State :=
  match r.work.ladder? with
  | none => s
  | some l =>
    let l := l.fail o
    let s := s.raiseFailedAttempts r.drive
    let work := (if check then r.work.setCheckDue false else r.work)
    if l.spent (s.geometry r.drive) then
      (s.onActive t fun r => { r with work := work.setLadder l }).finishTag t o.status
    else if l.lost then
      (s.onActive t fun r => { r with work := work.setLadder l.recalibrate }).orderMotion r.drive t
        .recalThenSeek r.work.track
    else
      (s.onActive t fun r => { r with work := work.setLadder l }).setPhase t .rotate

/-! ### The end of a pass -/

/-- The outcome of a pass at its ending pulse (R108, R109, R112). -/
def PassBody.outcomeAtEnd : PassBody → Outcome
  | .reading _ _ (.decided o _) => o
  | .reading _ _ _ => .noSync
  | .writing _ .complete => .written
  | .writing _ .gateOpen => .noSync
  | .formatting _ _ _ _ => .ok

/-- The pass is a check pass (R114). -/
def PassBody.isCheck : PassBody → Bool
  | .reading check _ _ => check
  | _ => false

/-- The data a read pass places in its buffer at its ending pulse: those of an outcome OK or DATA_CHECK;
a check pass places none (R110, R114, R129). -/
def PassBody.placed : PassBody → Option Block
  | .reading false _ (.decided .ok data) => data
  | .reading false _ (.decided .dataCheck data) => data
  | _ => none

/-- A read pass fixes its data in its buffer (R110, R129). -/
def State.placeData (s : State) (p : Pass) : State :=
  match p.buffer, p.body.placed with
  | some b, some data => s.fillBuffer b data
  | _, _ => s

/-- The request carries the VERIFY flag (R113). -/
def Work.verifies : Work → Bool
  | .write _ v _ _ _ => v
  | _ => false

/-- The outcome of an owned pass without the abort-pending mark reaches its request (Table 7-3). -/
def State.settleOutcome (s : State) (t : TagNo) (r : Request) (body : PassBody) : State :=
  match body, body.outcomeAtEnd with
  | .reading false _ _, .ok => (s.raiseSectorsRead r.drive).finishTag t .ok
  | .reading true _ _, .ok => s.finishTag t .ok
  | .writing _ _, .written =>
    if r.work.verifies then s.setPhase t .rotate else s.finishTag t .ok
  | .formatting _ _ _ _, _ => s.finishTag t .ok
  | body, o => s.failAttempt t r body.isCheck o

/-- A pass delivers its outcome: to its ACTIVE request, which ends ABORTED if it carries the abort-pending
mark (R22), or to no tag if it is detached, freeing its buffer (R4, R107, R124). -/
def State.deliver (s : State) (p : Pass) : State :=
  match p.owner with
  | .detached => s.freeBuffer p.buffer
  | .tag t =>
    match s.tag t with
    | .active r _ _ true => s.finish t r .aborted
    | .active r _ _ false => s.settleOutcome t r p.body
    | _ => s

/-- A pass ends at its ending pulse: its data are placed, the hold is released with the lines idle, the
record ceases, and the outcome reaches the owner (R107). -/
def State.endPass (s : State) (p : Pass) : State :=
  let s := (s.placeData p).releaseBus
  { s with pass := none }.deliver p

/-- A sector pulse during a format revolution: the current sector is closed, then the revolution ends if
stop is marked, or the next sector begins (R115). -/
def State.formatSectorPulse (s : State) (p : Pass) (fill : Byte) (completed : Nat) (stop : Bool)
    (n : Nat) : State :=
  if stop then s.closeGate.endPass p else s.closeGate.beginFormatSector p fill completed n

/-- Stage 2 of a pulse: a pass under way on the drive whose sector ends at this pulse ends (R72, R107,
R115, R116). -/
def State.passStage (s : State) (d : Drive) (pulse : Pulse) : State :=
  match s.pass with
  | none => s
  | some p =>
    if p.drive = d then
      match p.body, pulse with
      | .formatting fill _ completed stop, .sector n => s.formatSectorPulse p fill completed stop n
      | _, _ => s.endPass p
    else s

/-- Stage 3 of a pulse: the starting pulse of the ACTIVE request in ROTATE raises its PASS need (R72,
R97). -/
def State.needStage (s : State) (d : Drive) (pulse : Pulse) : State :=
  match s.activeTag d with
  | none => s
  | some t =>
    match s.tag t with
    | .active r _ .rotate _ =>
      if r.work.startingPulse = some pulse then s.passNeed d t r else s
    | _ => s

/-- A pulse that does not end in a failure is handed on: stages 2 to 4 of R72. -/
def State.handPulse (s : State) (d : Drive) (pulse : Pulse) : State :=
  ((s.passStage d pulse).needStage d pulse).afterFree d

/-! ### Inside a pass -/

/-- The sync mark is found: SEARCHING becomes READING (R108). In any other stage RDATA is not sampled. -/
def PassBody.syncFound : PassBody → PassBody
  | .reading check n .searching => .reading check n (.reading false)
  | body => body

/-- Both ID bytes are compared with the target (R109). -/
def Pass.idArrived (p : Pass) (track sideSector : Byte) : PassBody :=
  match p.body with
  | .reading check n (.reading false) =>
    if [track, sideSector] = idBytes p.track p.side n then .reading check n (.reading true)
    else .reading check n (.decided .idMismatch none)
  | body => body

/-- The outcome of a complete record whose ID matched: the media check over ID and data against the check
received, and for a check pass the data against the buffer (R104, R109, R114). -/
def recordOutcome (check : Bool) (id : List Byte) (data : Block) (received : Word16)
    (contents : Option Block) : Outcome :=
  if mediaCheck (id ++ data.val) ≠ received then (if check then .verifyMismatch else .dataCheck)
  else if check = true ∧ contents ≠ some data then .verifyMismatch
  else .ok

/-- The data and check bytes have arrived (R109, R114). -/
def Pass.recordArrived (p : Pass) (data : Block) (received : Word16) (contents : Option Block) :
    PassBody :=
  match p.body with
  | .reading check n (.reading true) =>
    .reading check n
      (.decided (recordOutcome check (idBytes p.track p.side n) data received contents) (some data))
  | body => body

/-- Change the body of the pass under way. -/
def State.onPassBody (s : State) (f : Pass → PassBody) : State :=
  match s.pass with
  | some p => { s with pass := some { p with body := f p } }
  | none => s

/-- The contents of the buffer of the pass. -/
def State.passContents (s : State) (p : Pass) : Option Block :=
  p.buffer.map fun b => (s.buffer b).contents

/-- Change the request that owns a pass, if it is ACTIVE (R4). -/
def State.onOwner (s : State) (o : Owner) (f : Request → Request) : State :=
  match o with
  | .tag t => s.onActive t f
  | .detached => s

/-- What a completed write pass leaves in its request: sectors written 1, and the check-due mark set if
it carries the VERIFY flag (R112). -/
def Request.wrote (r : Request) : Request :=
  { r with written := 1, work := if r.work.verifies then r.work.setCheckDue true else r.work }

/-- The last bit of a write pass's media check is sent (R112). -/
def State.writeDone (s : State) : State :=
  match s.pass with
  | some p =>
    match p.body with
    | .writing n .gateOpen =>
      let s := (s.closeGate.raiseSectorsWritten p.drive).onOwner p.owner Request.wrote
      { s with pass := some { p with body := .writing n .complete } }
    | _ => s
  | none => s

/-- A format sector's record is completely written (R115). -/
def State.formatSectorDone (s : State) : State :=
  match s.pass with
  | some p =>
    match p.body with
    | .formatting fill (some ⟨n, .gateOpen⟩) completed stop =>
      let s := (s.closeGate.raiseSectorsWritten p.drive).onOwner p.owner fun r =>
        { r with written := completed + 1 }
      { s with pass := some { p with body := .formatting fill (some ⟨n, .complete⟩) (completed + 1) stop } }
    | _ => s
  | none => s

end Sys2Proof.Machine
end

