-- ==== Sys2Proof/Machine/Rotation.lean ====
section
/-! DEFINITION. Drive failures (R73 to R76), the spin-up measurement (R64 to R66) and rotation while
TURNING (R69 to R71), with the end of a happening: the STEP grants of R96, then the beginning of a frame
(R140). -/

namespace Sys2Proof.Machine

/-- The end of a happening: waiting STEP needs are granted (R96), then a frame begins (R140). -/
def State.endHappening (s : State) : State := s.arbitrate.beginFrame

/-! ### Work whose request has gone -/

/-- A motion whose request leaves ACTIVE: withdrawn with its STEP need in WAITING, otherwise detached
(R90). -/
def Motion.orphan (m : Motion) : Option Motion :=
  if m.stage = .waiting then none else some { m with owner := .detached }

/-- A drive's motion after its request has left ACTIVE (R90). -/
def State.orphanMotion (s : State) (d : Drive) : State :=
  s.setHead d { (s.drive d).head with motion := (s.drive d).head.motion.bind Motion.orphan }

/-- A pass of a failed drive is cut off with no outcome: the gate drops, the hold is released, and a
detached pass frees its buffer (R75, R122, R133). -/
def State.cutPass (s : State) (d : Drive) : State :=
  match s.pass with
  | none => s
  | some p =>
    if p.drive = d then
      let s := { s.releaseBus with pass := none }
      match p.owner with
      | .detached => s.freeBuffer p.buffer
      | .tag _ => s
    else s

/-! ### Drive failures -/

/-- The drive's ACTIVE request, then its queue in order, end with a status (R17, R74). -/
def State.endRequests (s : State) (d : Drive) (st : Status) : State :=
  ((s.activeTag d).toList ++ (s.drive d).queue).foldl (fun s t => s.failTag t st) (s.setQueue d [])

/-- A drive failure: its event, the pass cut off, the reservation cleared if it names the drive, the
motion detached or withdrawn, the requests ended, and the spindle stopped (R73 to R76, R135). -/
def State.failDrive (s : State) (d : Drive) (ev : DriveEvent) (st : Status) (m : Media) : State :=
  ((((((s.raiseEvent d ev).cutPass d).clearReservation d).orphanMotion d).endRequests d st).stopSpindle d
    m).endHappening

/-- The failure WRONG_MEDIA, with the media knowledge PRESENT (R66, R69, R70). -/
def State.wrongMedia (s : State) (d : Drive) : State := s.failDrive d .wrongMedia .wrongMedia .present

/-! ### Spin-up -/

/-- The stability test: thirty-two times the difference does not exceed the earlier interval (R65). -/
def stable (earlier later : Word16) : Bool :=
  decide (32 * apart later.toNat earlier.toNat ≤ earlier.toNat)

/-- A spin-up succeeds (R65). The watchdog's length is twice the revolution period. -/
def State.spinUpDone (s : State) (d : Drive) (period : Word16) : State :=
  let s := s.setSpindle d
    { motor := true, condition := .turning, media := .present, position := .index, period := some period,
      revCount := some 0, measure := none, spinUpTimer := none, watchdog := some (2 * period.toNat),
      runOnTimer := none }
  (s.afterFree d).endHappening

/-- Replace the measurement fields of a spin-up. -/
def State.setMeasure (s : State) (d : Drive) (m : Measure) : State :=
  s.setSpindle d { (s.drive d).spindle with measure := some m }

/-- An index pulse in STARTING: the first and the second only measure, each later one runs the stability
test and, when stable, the count (R64, R65, R66). -/
def State.measureIndex (s : State) (d : Drive) (m : Measure) (interval : Word16) : State :=
  if m.indexSeen = false then s.setMeasure d ⟨true, none, 0⟩
  else match m.earlier with
    | none => s.setMeasure d ⟨true, some interval, 0⟩
    | some earlier =>
      if stable earlier interval then
        if m.sectors = (s.geometry d).sectors then s.spinUpDone d interval else s.wrongMedia d
      else s.setMeasure d ⟨true, some interval, 0⟩

/-- A sector pulse in STARTING raises sectors in last revolution; 255 stays (R64). -/
def State.measureSector (s : State) (d : Drive) (m : Measure) : State :=
  s.setMeasure d { m with sectors := if m.sectors < 255 then m.sectors + 1 else m.sectors }

/-! ### Rotation -/

/-- An index pulse in TURNING whose count is right: INDEX, count 0, the watchdog again (R70). -/
def Spindle.atIndex (x : Spindle) : Spindle :=
  { x with
    position := .index, revCount := some 0, watchdog := some (2 * ((x.period.map (·.toNat)).getD 0)) }

/-- A sector pulse in TURNING: one more counted, the position advanced (R69). -/
def Spindle.atSector (x : Spindle) (n : Nat) : Spindle :=
  { x with position := .sector n, revCount := some (x.revCount.getD 0 + 1) }

/-- An index pulse in TURNING (R70, R72). -/
def State.turnIndex (s : State) (d : Drive) : State :=
  if (s.drive d).spindle.revCount = some (s.geometry d).sectors then
    ((s.setSpindle d (s.drive d).spindle.atIndex).handPulse d .index).endHappening
  else s.wrongMedia d

/-- The sector a sector pulse starts, from the position it finds; a pulse past sector S-1 starts none
(R69). In TURNING the position is never UNKNOWN. -/
def nextSector (sectors : Nat) : Position → Option Nat
  | .index => some 0
  | .sector n => if n + 1 < sectors then some (n + 1) else none
  | .unknown => none

/-- A sector pulse in TURNING (R69, R72). -/
def State.turnSector (s : State) (d : Drive) : State :=
  match nextSector (s.geometry d).sectors (s.drive d).spindle.position with
  | some n =>
    ((s.setSpindle d ((s.drive d).spindle.atSector n)).handPulse d (.sector n)).endHappening
  | none => s.wrongMedia d

/-- An index pulse by motor condition (R62, Table 4-3). -/
def State.indexPulse (s : State) (d : Drive) (interval : Word16) : State :=
  match (s.drive d).spindle.condition with
  | .undefined => s
  | .stopped => s
  | .starting =>
    match (s.drive d).spindle.measure with
    | some m => s.measureIndex d m interval
    | none => s
  | .turning => s.turnIndex d

/-- A sector pulse by motor condition (R62, Table 4-3). -/
def State.sectorPulse (s : State) (d : Drive) : State :=
  match (s.drive d).spindle.condition with
  | .undefined => s
  | .stopped => s
  | .starting =>
    match (s.drive d).spindle.measure with
    | some m => s.measureSector d m
    | none => s
  | .turning => s.turnSector d

/-! ### Timers of the spindle -/

/-- Expiry of the spin-up timer: NO_MEDIA if no index pulse was seen, otherwise SPIN_FAIL (R67). -/
def State.spinUpExpired (s : State) (d : Drive) : State :=
  match (s.drive d).spindle.spinUpTimer with
  | none => s
  | some _ =>
    if (s.drive d).spindle.measure.any (·.indexSeen) then s.failDrive d .spinFail .notReady .unknown
    else s.failDrive d .noMedia .notReady .absent

/-- Expiry of the index watchdog: MEDIA_LOST (R71). -/
def State.watchdogExpired (s : State) (d : Drive) : State :=
  match (s.drive d).spindle.watchdog with
  | none => s
  | some _ => s.failDrive d .mediaLost .mediaLost .absent

/-- Expiry of the run-on timer: the motor stops with no event (R79). -/
def State.runOnExpired (s : State) (d : Drive) : State :=
  match (s.drive d).spindle.runOnTimer with
  | none => s
  | some _ => s.stopSpindle d .unknown

/-! ### Timers of the head -/

/-- Expiry of the step timer: a recalibration samples TRK0n while the running position is UNKNOWN,
otherwise a seek compares the running position with its target (R85, R86); a HEAD_FAULT leaves the drive
free (R88). -/
def State.stepExpired (s : State) (d : Drive) : State :=
  match (s.drive d).head.stepTimer, (s.drive d).head.motion with
  | some _, some m =>
    if m.stage = .stepping then
      match (s.drive d).head.running with
      | none => ((s.trk0Check d m).afterFree d).endHappening
      | some p => (s.seekStep d m p).endHappening
    else s
  | _, _ => s

/-- The end of a settle acts on the owner: ROTATE, or DONE OK for SEEK and RECAL (R89, Table 5-2). -/
def State.settledOwner (s : State) : Owner → State
  | .detached => s
  | .tag t =>
    match s.tag t with
    | .active r _ _ _ =>
      if r.work.startingPulse.isSome then s.setPhase t .rotate else s.finish t r .ok
    | _ => s

/-- Expiry of the settle timer: the head is AT the target and the motion has ended (R89). -/
def State.settleExpired (s : State) (d : Drive) : State :=
  match (s.drive d).head.settleTimer, (s.drive d).head.motion with
  | some _, some m =>
    if m.stage = .settling then
      let s := s.setHead d
        { (s.drive d).head with state := .onTrack m.target, motion := none, settleTimer := none }
      ((s.settledOwner m.owner).afterFree d).endHappening
    else s
  | _, _ => s

end Sys2Proof.Machine
end

