-- ==== Sys2Proof/Machine/Requests.lean ====
section
/-! DEFINITION. The Request Table: the acceptance checks in the order of Table 1-3 (R5 to R11), the
acceptance of each kind (R13 to R15), the control messages (R18 to R25), and the hand-off of a frame by
its kind (R156). -/

namespace Sys2Proof.Machine

/-! ### The acceptance checks -/

/-- Checks 2 to 5: body length, an open session, the session field, the tag field (R6, R7, R8). -/
def checkHeader (s : State) (f : Frame) (length : Nat) : Except Reason TagNo :=
  if f.body.length ≠ length then .error .badLength
  else if s.session = 0 then .error .notOpen
  else if f.session ≠ s.session then .error .stale
  else if h : f.tag.toNat < 16 then .ok ⟨f.tag.toNat, h⟩
  else .error .badTag

/-- Check 6 for a tagged request: FREE and HELD pass (R8). -/
def checkTagState (s : State) (t : TagNo) : Except Reason Unit :=
  match s.tag t with
  | .free => .ok ()
  | .held _ _ => .ok ()
  | _ => .error .tagBusy

/-- Check 8: the drive is defined (R9). -/
def checkDefined (s : State) (d : Drive) : Except Reason Unit :=
  if (s.drive d).spindle.condition = .undefined then .error .notDefined else .ok ()

/-- Checks 2 to 7 of a tagged request (R5). -/
def checkRequest (s : State) (f : Frame) (length : Nat) : Except Reason (TagNo × Drive) := do
  let t ← checkHeader s f length
  checkTagState s t
  let d ← driveOf (f.byte 0)
  pure (t, d)

/-- Checks 2 to 8 of a queued kind (R5). -/
def checkQueued (s : State) (f : Frame) (length : Nat) : Except Reason (TagNo × Drive) := do
  let (t, d) ← checkRequest s f length
  checkDefined s d
  pure (t, d)

/-- The tag becomes FREE if it is HELD: the implicit release of an acceptance (R13). -/
def State.releaseHeld (s : State) (t : TagNo) : State :=
  match s.tag t with
  | .held _ _ => s.freeTag t
  | _ => s

/-- Check 10: the buffer an acceptance on the tag binds, with the tag's own buffer counted free when it is
HELD (R11, R128). -/
def checkBuffer (s : State) (t : TagNo) : Except Reason BufNo :=
  match (s.releaseHeld t).lowestFree with
  | some b => .ok b
  | none => .error .noBuffer

/-- Check 11: the drive is idle (R11, R50). -/
def checkIdle (s : State) (d : Drive) : Except Reason Unit :=
  if s.isIdle d then .ok () else .error .driveBusy

/-- An accepted queued kind: its tag, drive and work. -/
structure Accepted where
  tag : TagNo
  drive : Drive
  work : Work
  deriving DecidableEq, Repr

/-- READ: checks 2 to 10 (R5, R10, R11). -/
def checkRead (s : State) (f : Frame) : Except Reason Accepted := do
  let (t, d) ← checkQueued s f 4
  let a ← sectorOperand (s.geometry d) f
  let b ← checkBuffer s t
  pure ⟨t, d, .read a b .start⟩

/-- WRITE: checks 2 to 10 (R5, R10, R11). -/
def checkWrite (s : State) (f : Frame) : Except Reason Accepted := do
  let (t, d) ← checkQueued s f 261
  let a ← sectorOperand (s.geometry d) f
  let v ← flagOperand (f.byte 4)
  let b ← checkBuffer s t
  pure ⟨t, d, .write a v b .start false⟩

/-- VERIFY: checks 2 to 9 (R5, R10). -/
def checkVerify (s : State) (f : Frame) : Except Reason Accepted := do
  let (t, d) ← checkQueued s f 4
  let a ← sectorOperand (s.geometry d) f
  pure ⟨t, d, .verify a .start⟩

/-- FORMAT: checks 2 to 9 (R5, R10). -/
def checkFormat (s : State) (f : Frame) : Except Reason Accepted := do
  let (t, d) ← checkQueued s f 4
  let (track, side) ← formatOperand (s.geometry d) f
  pure ⟨t, d, .format track side (f.byte 3)⟩

/-- SEEK: checks 2 to 9 (R5, R10). -/
def checkSeek (s : State) (f : Frame) : Except Reason Accepted := do
  let (t, d) ← checkQueued s f 2
  let track ← seekOperand (s.geometry d) f
  pure ⟨t, d, .seek track⟩

/-- RECAL: checks 2 to 8; it has no parameter but the drive (R5, R10). -/
def checkRecal (s : State) (f : Frame) : Except Reason Accepted := do
  let (t, d) ← checkQueued s f 1
  pure ⟨t, d, .recal⟩

/-- DEFINE: checks 2 to 7, 9 and 11 (R5, R10, R11). -/
def checkDefine (s : State) (f : Frame) : Except Reason (TagNo × Drive × DriveRecord) := do
  let (t, d) ← checkRequest s f 11
  let g ← recordOperand f
  checkIdle s d
  pure (t, d, g)

/-- QUERY: checks 2 to 7 and 9 (R5, R10). -/
def checkQuery (s : State) (f : Frame) : Except Reason (TagNo × Drive × Bool) := do
  let (t, d) ← checkRequest s f 2
  let clear ← flagOperand (f.byte 1)
  pure (t, d, clear)

/-! ### Acceptance -/

/-- The buffer of an accepted READ or WRITE is bound to its tag (R14, R128). -/
def State.bindWork (s : State) (t : TagNo) (w : Work) : State :=
  match w.buffer? with
  | some b => s.bindBuffer b (.tag t)
  | none => s

/-- The data of an accepted WRITE replace its buffer's contents (R128, R129). -/
def State.fillWork (s : State) (w : Work) (data : Block) : State :=
  match w.buffer? with
  | some b => s.fillBuffer b data
  | none => s

/-- Acceptance of READ, VERIFY, FORMAT, SEEK or RECAL: the implicit release, the binding, the queue
(R13, R14). -/
def State.accept (s : State) (a : Accepted) : State :=
  ((s.releaseHeld a.tag).bindWork a.tag a.work).enqueue a.drive a.tag a.work

/-- Acceptance of WRITE: the binding is followed by the copy of the frame's data (R14, R128). -/
def State.acceptWrite (s : State) (a : Accepted) (data : Block) : State :=
  (((s.releaseHeld a.tag).bindWork a.tag a.work).fillWork a.work data).enqueue a.drive a.tag a.work

/-- A tagged request that completes at its acceptance: DEFINE or QUERY (R15). -/
def State.acceptDone (s : State) (t : TagNo) (d : Drive) (w : Work) : State :=
  { s with nextStamp := s.nextStamp + 1 }.finish t ⟨w, d, s.session, s.nextStamp, 0⟩ .ok

/-- The effects of an accepted DEFINE on its drive (R50, R51, R52). -/
def State.redefine (s : State) (d : Drive) (g : DriveRecord) : State :=
  s.setDrive d
    { record := some g, stats := .zero, queue := (s.drive d).queue, sweep := .inward,
      spindle := .still .stopped .unknown, head := .lost }

/-- The moving flag of a head state (R58, Table 3-6). -/
def HeadState.movingFlag : HeadState → Bool
  | .moving _ => true
  | .settling _ => true
  | _ => false

/-- The snapshot of a drive (R57, R58, R59). -/
def State.snapshot (s : State) (d : Drive) : Snapshot :=
  let u := s.drive d
  { drive := d, condition := u.spindle.condition, media := u.spindle.media,
    headTrack := u.head.running, moving := u.head.state.movingFlag, position := u.spindle.position,
    period := u.spindle.period, writeProtect := s.levels.wprot.get d, queueLength := u.queue.length,
    activeTag := s.activeTag d, reservation := s.bus.reservation, stats := u.stats }

/-- The counters of a drive are cleared when the CLEAR flag is set (R56). -/
def State.clearStats (s : State) (d : Drive) (clear : Bool) : State :=
  if clear then s.setStats d .zero else s

/-! ### The tagged requests -/

/-- A frame that runs its checks and is then refused (R12) or accepted (R5). -/
def State.judged {α : Type} (s : State) (f : Frame) (check : Except Reason α) (accept : α → State) :
    State :=
  match check with
  | .error e => s.refuse e f
  | .ok a => accept a

/-- READ (R14). -/
def State.takeRead (s : State) (f : Frame) : State := s.judged f (checkRead s f) s.accept

/-- WRITE (R14). -/
def State.takeWrite (s : State) (f : Frame) : State :=
  s.judged f (checkWrite s f) fun a => s.acceptWrite a (writeData f)

/-- VERIFY (R14). -/
def State.takeVerify (s : State) (f : Frame) : State := s.judged f (checkVerify s f) s.accept

/-- FORMAT (R14). -/
def State.takeFormat (s : State) (f : Frame) : State := s.judged f (checkFormat s f) s.accept

/-- SEEK (R14). -/
def State.takeSeek (s : State) (f : Frame) : State := s.judged f (checkSeek s f) s.accept

/-- RECAL (R14). -/
def State.takeRecal (s : State) (f : Frame) : State := s.judged f (checkRecal s f) s.accept

/-- DEFINE (R15, R50). -/
def State.takeDefine (s : State) (f : Frame) : State :=
  s.judged f (checkDefine s f) fun (t, d, g) =>
    ((s.releaseHeld t).redefine d g).acceptDone t d .define

/-- QUERY (R15, R57): the snapshot is taken before the CLEAR flag acts. -/
def State.takeQuery (s : State) (f : Frame) : State :=
  s.judged f (checkQuery s f) fun (t, d, clear) =>
    ((s.releaseHeld t).clearStats d clear).acceptDone t d (.query clear (s.snapshot d))

/-! ### ABORT, RELEASE and RESEND -/

/-- Set the abort-pending mark; a format revolution is marked to stop (R21, R121). -/
def State.markAbort (s : State) (t : TagNo) : State :=
  match s.tag t with
  | .active r p ph _ =>
    (s.setTag t (.active r p ph true)).onPassBody fun q =>
      match q.body with
      | .formatting fill current completed stop =>
        .formatting fill current completed (stop || q.owner == .tag t)
      | body => body
  | _ => s

/-- ABORT by target state and phase (R18 to R21, Table 1-7). A request that leaves its queue, or leaves
ACTIVE without a detached motion, may leave its drive to a decision or to run-on (R29, R31, R90). -/
def State.abortTag (s : State) (f : Frame) (t : TagNo) : State :=
  match s.tag t with
  | .free => s.refuse .noSuchTag f
  | .queued r _ => ((s.leaveQueue r.drive t).finish t r .aborted).runOnIfDue r.drive
  | .active r _ .position _ => ((s.orphanMotion r.drive).finish t r .aborted).afterFree r.drive
  | .active r _ .settle _ => ((s.orphanMotion r.drive).finish t r .aborted).afterFree r.drive
  | .active r _ .rotate _ => ((s.clearReservation r.drive).finish t r .aborted).afterFree r.drive
  | .active _ _ .pass false => s.markAbort t
  | .active _ _ .pass true => s.refuse .alreadyPending f
  | .done _ _ => s.refuse .tooLate f
  | .sending _ _ _ => s.refuse .tooLate f
  | .held _ _ => s.refuse .tooLate f

/-- ABORT (R18). -/
def State.takeAbort (s : State) (f : Frame) : State := s.judged f (checkHeader s f 0) (s.abortTag f)

/-- RELEASE by target state (R24). -/
def State.releaseTag (s : State) (f : Frame) (t : TagNo) : State :=
  match s.tag t with
  | .free => s.refuse .noSuchTag f
  | .queued _ _ => s.refuse .notDone f
  | .active _ _ _ _ => s.refuse .notDone f
  | .done _ _ => (s.withdrawReply t).freeTag t
  | .sending r final false => s.setTag t (.sending r final true)
  | .sending _ _ true => s.refuse .alreadyPending f
  | .held _ _ => s.freeTag t

/-- RELEASE (R24). -/
def State.takeRelease (s : State) (f : Frame) : State :=
  s.judged f (checkHeader s f 0) (s.releaseTag f)

/-- RESEND by target state (R25). -/
def State.resendTag (s : State) (f : Frame) (t : TagNo) : State :=
  match s.tag t with
  | .free => s.refuse .noSuchTag f
  | .queued _ _ => s.refuse .notDone f
  | .active _ _ _ _ => s.refuse .notDone f
  | .done _ _ => s.refuse .alreadyPending f
  | .sending _ _ _ => s.refuse .alreadyPending f
  | .held r final => (s.setTag t (.done r final)).listEntry (.reply t)

/-- RESEND (R25). -/
def State.takeResend (s : State) (f : Frame) : State := s.judged f (checkHeader s f 0) (s.resendTag f)

/-! ### Sessions -/

/-- The session number after an accepted OPEN: 255 wraps to 1 (R159). -/
def nextSession (n : Byte) : Byte := if n = 255 then 1 else n + 1

/-- Stage 2 of session end: every tag but a SENDING one becomes FREE (R26). -/
def State.freeAllTags (s : State) : State :=
  s.mapTags fun _ x =>
    match x with
    | .sending r final m => .sending r final m
    | _ => .free

/-- The pass under way becomes detached, a format revolution marked to stop (R123). -/
def Pass.detach (p : Pass) : Pass :=
  { p with
    owner := .detached
    body := match p.body with
      | .formatting fill current completed _ => .formatting fill current completed true
      | body => body }

/-- Stage 4 of session end (R123). -/
def State.detachPass (s : State) : State := { s with pass := s.pass.map Pass.detach }

/-- The tag's reply frame is on TXD. -/
def TagState.isSending : TagState → Bool
  | .sending _ _ _ => true
  | _ => false

/-- Stage 5 of session end: the buffer of the detached pass moves to it, a SENDING tag keeps its buffer,
and the buffers of the freed tags are freed (R132). -/
def State.settleBuffers (s : State) : State :=
  s.mapBuffers fun b x =>
    match x.binding with
    | .tag t =>
      if s.pass.any (fun p => p.buffer == some b) then { x with binding := .detachedPass }
      else if (s.tag t).isSending then x
      else { x with binding := .free }
    | _ => x

/-- Session end, stages 2 to 8 of Table 11-1 (R161). -/
def State.endSession (s : State) : State :=
  let s := s.freeAllTags
  let s := (s.orphanMotion .d0).orphanMotion .d1
  let s := s.detachPass.settleBuffers
  let s := (s.setQueue .d0 []).setQueue .d1 []
  let s := { s with bus := { s.bus with reservation := none } }
  s.setList (s.list.filter Entry.isEvent)

/-- An accepted OPEN: the number advances, a session that was open ends, OPENED is listed, and each drive
left free, TURNING and with an empty queue starts its run-on (R160, R161, R162). -/
def State.openAccepted (s : State) : State :=
  if s.session = 0 then { s with session := nextSession s.session }.announce .opened
  else
    ((({ s with session := nextSession s.session }.endSession).announce .opened).runOnIfDue
      .d0).runOnIfDue .d1

/-- OPEN (R160): only the body length is tested. -/
def State.takeOpen (s : State) (f : Frame) : State :=
  if f.body.length = 0 then s.openAccepted else s.refuse .badLength f

/-! ### The hand-off -/

/-- A frame handed on goes by its kind to Session Control or to the Request Table, whose check 1 refuses
an unknown kind (R6, R156). -/
def State.handOn (s : State) (f : Frame) : State :=
  if f.kind = 0x01 then s.takeOpen f
  else if f.kind = 0x02 then s.takeDefine f
  else if f.kind = 0x03 then s.takeQuery f
  else if f.kind = 0x10 then s.takeRead f
  else if f.kind = 0x11 then s.takeWrite f
  else if f.kind = 0x12 then s.takeVerify f
  else if f.kind = 0x13 then s.takeFormat f
  else if f.kind = 0x14 then s.takeSeek f
  else if f.kind = 0x15 then s.takeRecal f
  else if f.kind = 0x20 then s.takeAbort f
  else if f.kind = 0x21 then s.takeRelease f
  else if f.kind = 0x22 then s.takeResend f
  else s.refuse .unknownKind f

end Sys2Proof.Machine
end

