-- ==== Sys2Proof/Machine/Receiver.lean ====
section
/-! DEFINITION. The Link Receiver (R151 to R157) and the end of an outbound frame (R141). -/

namespace Sys2Proof.Machine

/-- Put the receiver in a state; the inter-byte timer runs, from its full length, in ESCAPE and in GATHER
with content (R155). -/
def State.receive (s : State) (ph : RxPhase) : State :=
  { s with rx :=
      ⟨ph, match ph with
        | .idle => none
        | .gather [] => none
        | .gather (_ :: _) => some Config.interByteLimit
        | .escape _ => some Config.interByteLimit⟩ }

/-- A link fault: the content is discarded, and a NOTICE is listed with subject kind 0x00 and subject tag
0xFF (R157). -/
def State.linkFault (s : State) (r : Reason) (ph : RxPhase) : State :=
  ((s.receive ph).addNotice r 0x00 0xFF).endHappening

/-- A content byte is appended, or the frame is LONG (R153, R154). -/
def State.gatherByte (s : State) (content : List Byte) (b : Byte) : State :=
  if content.length < Config.contentLimit then s.receive (.gather (content ++ [b]))
  else s.linkFault .long .idle

/-- The content without its two check bytes. -/
def contentBody (content : List Byte) : List Byte := content.take (content.length - 2)

/-- The two check bytes as a number, high byte first (R150). -/
def contentCheck (content : List Byte) : Word16 :=
  word16Of (content.getD (content.length - 2) 0) (content.getD (content.length - 1) 0)

/-- A closing mark judges the content: SHORT, CHECK, or the hand-off (R156). -/
def State.judge (s : State) (content : List Byte) : State :=
  if content.length < 5 then s.linkFault .short (.gather [])
  else if linkCheck (contentBody content) ≠ contentCheck content then s.linkFault .check (.gather [])
  else ((s.receive (.gather [])).handOn (frameOf (contentBody content))).endHappening

/-- A character taken on RXD (Table 10-2; R148, R152, R153, R154). -/
def State.takeChar (s : State) (b : Byte) (stopBit : Bool) : State :=
  match s.rx.phase with
  | .idle => if stopBit && b == mark then s.receive (.gather []) else s
  | .gather content =>
    if stopBit = false then s.linkFault .line .idle
    else if b = mark then (if content = [] then s.receive (.gather []) else s.judge content)
    else if b = escapeMark then s.receive (.escape content)
    else s.gatherByte content b
  | .escape content =>
    if stopBit = false then s.linkFault .line .idle
    else if b = 0xD8 then s.gatherByte content 0xF8
    else if b = 0xD9 then s.gatherByte content 0xF9
    else if b = mark then s.linkFault .badEscape (.gather [])
    else s.linkFault .badEscape .idle

/-- Expiry of the inter-byte timer (R155). -/
def State.rxExpired (s : State) : State :=
  match s.rx.timer with
  | some _ => s.linkFault .timeout .idle
  | none => s

/-- The tag of a REPLY frame that ends becomes FREE if its release-pending mark is set or its session of
acceptance is not the current one, otherwise HELD (R23). -/
def State.replySent (s : State) (t : TagNo) : State :=
  match s.tag t with
  | .sending r final releasePending =>
    if releasePending = true ∨ r.session ≠ s.session then s.freeTag t else s.setTag t (.held r final)
  | _ => s

/-- The frame on TXD ends, and the next one begins if it may (R141). -/
def State.frameEnded (s : State) : State :=
  match s.tx with
  | none => s
  | some fr =>
    let s := { s with tx := none }
    (match fr.reply with
      | some t => s.replySent t
      | none => s).beginFrame

end Sys2Proof.Machine
end

