-- ==== Sys2Proof/Machine/DriveFamily.lean ====
section
/-! DEFINITION. The commands of the drive port: pulses, timer expiries and the progress of a pass. -/

namespace Sys2Proof.Machine

/-- INDEX_PULSE (R62). -/
def execIndexPulse (lv : Levels) (d : Drive) (interval : Word16) (s : State) :
    Host.Outcome State Fault Refusal :=
  .next (s.unlessHeld fun s => (s.withLevels lv).indexPulse d interval)

/-- SECTOR_PULSE (R69). -/
def execSectorPulse (lv : Levels) (d : Drive) (s : State) : Host.Outcome State Fault Refusal :=
  .next (s.unlessHeld fun s => (s.withLevels lv).sectorPulse d)

/-- SPIN_UP_TIMER_EXPIRY (R67). -/
def execSpinUpTimerExpiry (lv : Levels) (d : Drive) (s : State) : Host.Outcome State Fault Refusal :=
  .next (s.unlessHeld fun s => (s.withLevels lv).spinUpExpired d)

/-- INDEX_WATCHDOG_EXPIRY (R71). -/
def execIndexWatchdogExpiry (lv : Levels) (d : Drive) (s : State) : Host.Outcome State Fault Refusal :=
  .next (s.unlessHeld fun s => (s.withLevels lv).watchdogExpired d)

/-- RUN_ON_TIMER_EXPIRY (R79). -/
def execRunOnTimerExpiry (d : Drive) (s : State) : Host.Outcome State Fault Refusal :=
  .next (s.unlessHeld fun s => s.runOnExpired d)

/-- SYNC_MARK_FOUND (R108). -/
def execSyncMarkFound (s : State) : Host.Outcome State Fault Refusal :=
  .next (s.unlessHeld fun s => s.onPassBody fun p => p.body.syncFound)

/-- ID_COMPLETE (R109). -/
def execIdComplete (track sideSector : Bits 8) (s : State) : Host.Outcome State Fault Refusal :=
  .next (s.unlessHeld fun s => s.onPassBody fun p =>
    p.idArrived (byteAt track.val 0) (byteAt sideSector.val 0))

/-- RECORD_COMPLETE (R109). -/
def execRecordComplete (data : Bits 2048) (check : Bits 16) (s : State) :
    Host.Outcome State Fault Refusal :=
  .next (s.unlessHeld fun s => s.onPassBody fun p =>
    p.recordArrived (rdataBlock data) (rdataCheck check) (s.passContents p))

/-- WRITE_COMPLETE (R112). -/
def execWriteComplete (s : State) : Host.Outcome State Fault Refusal :=
  .next (s.unlessHeld State.writeDone)

/-- FORMAT_SECTOR_COMPLETE (R115). -/
def execFormatSectorComplete (s : State) : Host.Outcome State Fault Refusal :=
  .next (s.unlessHeld State.formatSectorDone)

/-- STEP_TIMER_EXPIRY (R85, R86). -/
def execStepTimerExpiry (lv : Levels) (d : Drive) (s : State) : Host.Outcome State Fault Refusal :=
  .next (s.unlessHeld fun s => (s.withLevels lv).stepExpired d)

/-- SETTLE_TIMER_EXPIRY (R89). -/
def execSettleTimerExpiry (lv : Levels) (d : Drive) (s : State) : Host.Outcome State Fault Refusal :=
  .next (s.unlessHeld fun s => (s.withLevels lv).settleExpired d)

end Sys2Proof.Machine
end

