-- ==== Sys2Proof/Machine/FrameFamily.lean ====
section
/-! DEFINITION. The frame commands: a checked frame of each kind, as the Link Receiver hands it on (R156).
The hand-off and all that it does are one happening (R5). -/

namespace Sys2Proof.Machine

/-- A frame handed on as one happening, unless the part is held in reset. -/
def State.frameHappening (s : State) (f : Frame) (take : State → Frame → State) : State :=
  s.unlessHeld fun s => (take s f).endHappening

/-- OPEN (R160). -/
def execOpenSession (session tag : Byte) (body : List Byte) (s : State) :
    Host.Outcome State Fault Refusal :=
  .next (s.frameHappening ⟨0x01, session, tag, body⟩ State.takeOpen)

/-- DEFINE (R50). -/
def execDefine (session tag : Byte) (body : List Byte) (s : State) : Host.Outcome State Fault Refusal :=
  .next (s.frameHappening ⟨0x02, session, tag, body⟩ State.takeDefine)

/-- QUERY (R57). -/
def execQuery (lv : Levels) (session tag : Byte) (body : List Byte) (s : State) :
    Host.Outcome State Fault Refusal :=
  .next (s.frameHappening ⟨0x03, session, tag, body⟩ fun s f => (s.withLevels lv).takeQuery f)

/-- READ (R14). -/
def execRead (lv : Levels) (session tag : Byte) (body : List Byte) (s : State) :
    Host.Outcome State Fault Refusal :=
  .next (s.frameHappening ⟨0x10, session, tag, body⟩ fun s f => (s.withLevels lv).takeRead f)

/-- WRITE (R14). -/
def execWrite (lv : Levels) (session tag : Byte) (body : List Byte) (s : State) :
    Host.Outcome State Fault Refusal :=
  .next (s.frameHappening ⟨0x11, session, tag, body⟩ fun s f => (s.withLevels lv).takeWrite f)

/-- VERIFY (R14). -/
def execVerify (lv : Levels) (session tag : Byte) (body : List Byte) (s : State) :
    Host.Outcome State Fault Refusal :=
  .next (s.frameHappening ⟨0x12, session, tag, body⟩ fun s f => (s.withLevels lv).takeVerify f)

/-- FORMAT (R14). -/
def execFormat (lv : Levels) (session tag : Byte) (body : List Byte) (s : State) :
    Host.Outcome State Fault Refusal :=
  .next (s.frameHappening ⟨0x13, session, tag, body⟩ fun s f => (s.withLevels lv).takeFormat f)

/-- SEEK (R14). -/
def execSeek (lv : Levels) (session tag : Byte) (body : List Byte) (s : State) :
    Host.Outcome State Fault Refusal :=
  .next (s.frameHappening ⟨0x14, session, tag, body⟩ fun s f => (s.withLevels lv).takeSeek f)

/-- RECAL (R14). -/
def execRecal (lv : Levels) (session tag : Byte) (body : List Byte) (s : State) :
    Host.Outcome State Fault Refusal :=
  .next (s.frameHappening ⟨0x15, session, tag, body⟩ fun s f => (s.withLevels lv).takeRecal f)

/-- ABORT (R18). -/
def execAbort (lv : Levels) (session tag : Byte) (body : List Byte) (s : State) :
    Host.Outcome State Fault Refusal :=
  .next (s.frameHappening ⟨0x20, session, tag, body⟩ fun s f => (s.withLevels lv).takeAbort f)

/-- RELEASE (R24). -/
def execRelease (session tag : Byte) (body : List Byte) (s : State) : Host.Outcome State Fault Refusal :=
  .next (s.frameHappening ⟨0x21, session, tag, body⟩ State.takeRelease)

/-- RESEND (R25). -/
def execResend (session tag : Byte) (body : List Byte) (s : State) : Host.Outcome State Fault Refusal :=
  .next (s.frameHappening ⟨0x22, session, tag, body⟩ State.takeResend)

/-- UNKNOWN_KIND (R6): check 1 of the hand-off refuses every kind that is not of Table 12-2. -/
def execUnknownKind (kind session tag : Byte) (body : List Byte) (s : State) :
    Host.Outcome State Fault Refusal :=
  .next (s.frameHappening ⟨kind, session, tag, body⟩ State.handOn)

end Sys2Proof.Machine
end

