-- ==== Sys2Proof/Machine/LinkFamily.lean ====
section
/-! DEFINITION. The commands of the serial link: RX_BYTE, TIMEOUT, HOLD_ASSERTED, HOLD_DEASSERTED and
FRAME_END. -/

namespace Sys2Proof.Machine

/-- RX_BYTE (R153). -/
def execRxByte (lv : Levels) (data : Bits 8) (stopBit : Bool) (s : State) :
    Host.Outcome State Fault Refusal :=
  .next (s.unlessHeld fun s => (s.withLevels lv).takeChar (byteOfData data.val) stopBit)

/-- TIMEOUT (R155). -/
def execTimeout (s : State) : Host.Outcome State Fault Refusal := .next (s.unlessHeld State.rxExpired)

/-- HOLD_ASSERTED (R140): no frame begins from here on; one already begun goes on. -/
def execHoldAsserted (s : State) : Host.Outcome State Fault Refusal := .next { s with hold := true }

/-- HOLD_DEASSERTED (R140): an idle transmitter begins the frame at the head of the list. -/
def execHoldDeasserted (s : State) : Host.Outcome State Fault Refusal :=
  .next { s with hold := false }.beginFrame

/-- FRAME_END (R141). -/
def execFrameEnd (s : State) : Host.Outcome State Fault Refusal :=
  .next (s.unlessHeld State.frameEnded)

end Sys2Proof.Machine
end

