-- ==== Sys2Proof/Machine/ResetFamily.lean ====
section
/-! DEFINITION. The commands RESET_BEGIN and HARDWARE_RESET (R163). -/

namespace Sys2Proof.Machine

/-- The cause of a reset that begins while another may be held: a power-up decides (R163). -/
def heldCause (held : Option ResetCause) (cause : ResetCause) : ResetCause :=
  match held with
  | some .power => .power
  | _ => cause

/-- A drive when the part is held in reset: its motor line is deasserted, a spin-up and a motion are
abandoned without outcome (R61, R82, R163). -/
def DriveUnit.abandon (u : DriveUnit) : DriveUnit :=
  { u with spindle := .still .undefined .unknown, head := .lost }

/-- The part is held in reset: the lines are deasserted, the frame on TXD is cut off, the character being
received is dropped, and a pass or motion is abandoned without outcome (R163). -/
def State.beginReset (s : State) (cause : ResetCause) : State :=
  { s.releaseBus with
    rx := ⟨.idle, none⟩
    tx := none
    stall := false
    pass := none
    units := ⟨s.units.d0.abandon, s.units.d1.abandon⟩
    resetHold := some (heldCause s.resetHold cause) }

/-- A buffer after hardware reset: free, with contents that have no defined value (R127). -/
def freshBuffer (draw : Nat) (b : BufNo) : Buffer :=
  ⟨.free, ⟨(List.range 256).map fun i => Config.freeByte draw b.val i,
    by rw [List.length_map, List.length_range]⟩⟩

/-- The part leaves reset (R163): every block takes its reset value, the straps are sampled, the transmit
list is emptied and RESTARTED is listed with its cause, POWER when the reset ended a power-up and LINE
otherwise (R146). -/
def State.leaveReset (s : State) (rate1 rate0 : Bool) : State :=
  ({ rx := ⟨.idle, none⟩
     list := [.started (.restarted (s.resetHold.getD .line))]
     tx := none
     stall := false
     session := 0
     tags := Vector.replicate 16 .free
     nextStamp := 0
     units := ⟨.fresh, .fresh⟩
     bus := ⟨none, none, none⟩
     port := { s.port with sel := ⟨false, false⟩, wgate := false, comp := false, wdata := [] }
     pass := none
     buffers := Vector.ofFn (freshBuffer s.draws)
     rate := .ofStraps rate1 rate0
     hold := s.hold
     levels := s.levels
     resetHold := none
     draws := s.draws + 1
     pending := s.pending } : State).beginFrame

/-- RESET_BEGIN (R163). -/
def execResetBegin (cause : ResetCause) (s : State) : Host.Outcome State Fault Refusal :=
  .next (s.beginReset cause)

/-- HARDWARE_RESET (R163). A part that no RESET_BEGIN holds is reset in the same way, with cause LINE: the
RESET input was asserted and released while power stayed up (log entry 7). -/
def execHardwareReset (rate1 rate0 : Bool) (s : State) : Host.Outcome State Fault Refusal :=
  .next (s.leaveReset rate1 rate0)

end Sys2Proof.Machine
end

