-- ==== Sys2Proof/Machine/Dispatch.lean ====
section
/-! DEFINITION. One command on the part: each constructor's meaning. -/

namespace Sys2Proof.Machine

def exec (i : Instr) (s : State) : Host.Outcome State Fault Refusal :=
  match i with
  | .resetBegin cause => Sys2Proof.Machine.execResetBegin cause s
  | .hardwareReset rate1 rate0 => Sys2Proof.Machine.execHardwareReset rate1 rate0 s
  | .rxByte lv data stopBit => Sys2Proof.Machine.execRxByte lv data stopBit s
  | .timeout => Sys2Proof.Machine.execTimeout s
  | .openSession session tag body => Sys2Proof.Machine.execOpenSession session tag body s
  | .define session tag body => Sys2Proof.Machine.execDefine session tag body s
  | .query lv session tag body => Sys2Proof.Machine.execQuery lv session tag body s
  | .read lv session tag body => Sys2Proof.Machine.execRead lv session tag body s
  | .write lv session tag body => Sys2Proof.Machine.execWrite lv session tag body s
  | .verify lv session tag body => Sys2Proof.Machine.execVerify lv session tag body s
  | .format lv session tag body => Sys2Proof.Machine.execFormat lv session tag body s
  | .seek lv session tag body => Sys2Proof.Machine.execSeek lv session tag body s
  | .recal lv session tag body => Sys2Proof.Machine.execRecal lv session tag body s
  | .abort lv session tag body => Sys2Proof.Machine.execAbort lv session tag body s
  | .release session tag body => Sys2Proof.Machine.execRelease session tag body s
  | .resend session tag body => Sys2Proof.Machine.execResend session tag body s
  | .unknownKind kind session tag body => Sys2Proof.Machine.execUnknownKind kind session tag body s
  | .holdAsserted => Sys2Proof.Machine.execHoldAsserted s
  | .holdDeasserted => Sys2Proof.Machine.execHoldDeasserted s
  | .frameEnd => Sys2Proof.Machine.execFrameEnd s
  | .indexPulse lv d interval => Sys2Proof.Machine.execIndexPulse lv d interval s
  | .sectorPulse lv d => Sys2Proof.Machine.execSectorPulse lv d s
  | .spinUpTimerExpiry lv d => Sys2Proof.Machine.execSpinUpTimerExpiry lv d s
  | .indexWatchdogExpiry lv d => Sys2Proof.Machine.execIndexWatchdogExpiry lv d s
  | .runOnTimerExpiry d => Sys2Proof.Machine.execRunOnTimerExpiry d s
  | .syncMarkFound => Sys2Proof.Machine.execSyncMarkFound s
  | .idComplete track sideSector => Sys2Proof.Machine.execIdComplete track sideSector s
  | .recordComplete data check => Sys2Proof.Machine.execRecordComplete data check s
  | .writeComplete => Sys2Proof.Machine.execWriteComplete s
  | .formatSectorComplete => Sys2Proof.Machine.execFormatSectorComplete s
  | .stepTimerExpiry lv d => Sys2Proof.Machine.execStepTimerExpiry lv d s
  | .settleTimerExpiry lv d => Sys2Proof.Machine.execSettleTimerExpiry lv d s

end Sys2Proof.Machine
end

