-- ==== Sys2Proof/Safety.lean ====
section
/-! DEFINITION. What counts as a sound state of the SQ20: the relations between its blocks that the
manual's rules keep, in the terms the statements use. Each structure below is one block's invariant;
`State.Coherent` gathers them all. -/

namespace Sys2Proof

/-- The level inputs a command carries. -/
def Instr.levels? : Instr → Option Levels
  | .rxByte lv _ _ => some lv
  | .query lv _ _ _ => some lv
  | .read lv _ _ _ => some lv
  | .write lv _ _ _ => some lv
  | .verify lv _ _ _ => some lv
  | .format lv _ _ _ => some lv
  | .seek lv _ _ _ => some lv
  | .recal lv _ _ _ => some lv
  | .abort lv _ _ _ => some lv
  | .indexPulse lv _ _ => some lv
  | .sectorPulse lv _ => some lv
  | .spinUpTimerExpiry lv _ => some lv
  | .indexWatchdogExpiry lv _ => some lv
  | .stepTimerExpiry lv _ => some lv
  | .settleTimerExpiry lv _ => some lv
  | .resetBegin _ | .hardwareReset _ _ | .timeout | .openSession _ _ _ | .define _ _ _
  | .release _ _ _ | .resend _ _ _ | .unknownKind _ _ _ _ | .holdAsserted | .holdDeasserted
  | .frameEnd | .runOnTimerExpiry _ | .syncMarkFound | .idComplete _ _ | .recordComplete _ _
  | .writeComplete | .formatSectorComplete => none

end Sys2Proof

namespace Sys2Proof.Machine

/-! ### Commands and frames -/

/-- The state a command is taken in: the level inputs as the command finds them (log entry 1). -/
def State.facing (s : State) (c : Instr) : State :=
  match c.levels? with
  | some lv => s.withLevels lv
  | none => s

/-- The command that a checked frame is, by its kind code (Table 12-2). -/
def commandOf (lv : Levels) (f : Frame) : Instr :=
  if f.kind = 0x01 then .openSession f.session f.tag f.body
  else if f.kind = 0x02 then .define f.session f.tag f.body
  else if f.kind = 0x03 then .query lv f.session f.tag f.body
  else if f.kind = 0x10 then .read lv f.session f.tag f.body
  else if f.kind = 0x11 then .write lv f.session f.tag f.body
  else if f.kind = 0x12 then .verify lv f.session f.tag f.body
  else if f.kind = 0x13 then .format lv f.session f.tag f.body
  else if f.kind = 0x14 then .seek lv f.session f.tag f.body
  else if f.kind = 0x15 then .recal lv f.session f.tag f.body
  else if f.kind = 0x20 then .abort lv f.session f.tag f.body
  else if f.kind = 0x21 then .release f.session f.tag f.body
  else if f.kind = 0x22 then .resend f.session f.tag f.body
  else .unknownKind f.kind f.session f.tag f.body

/-- The data bits of a character as they pass on the line, least significant first (R147). -/
def dataOf (b : Byte) : Bits 8 :=
  ⟨[b.getLsbD 0, b.getLsbD 1, b.getLsbD 2, b.getLsbD 3, b.getLsbD 4, b.getLsbD 5, b.getLsbD 6, b.getLsbD 7],
    rfl⟩

/-- Bytes on TXD: for each a start bit, the eight data bits and a stop bit, with no gap (R147). -/
def onLine (bytes : List Byte) : List LineBit :=
  bytes.flatMap fun b => [.start] ++ (dataOf b).val.map .data ++ [.stop]

/-- Characters taken on RXD one after another, each with a stop bit and the same levels (R147, R153). -/
def takeAll (lv : Levels) : List Byte → State → Host.Outcome State Fault Refusal
  | [], s => .next s
  | b :: rest, s =>
    match exec (.rxByte lv (dataOf b) true) s with
    | .next t => takeAll lv rest t
    | o => o

/-! ### The acceptance checks as Table 1-3 lists them -/

/-- The body length of each kind the Request Table takes (Table 1-4). -/
def bodyLength (kind : Byte) : Option Nat :=
  if kind = 0x02 then some 11
  else if kind = 0x03 then some 2
  else if kind = 0x10 then some 4
  else if kind = 0x11 then some 261
  else if kind = 0x12 then some 4
  else if kind = 0x13 then some 4
  else if kind = 0x14 then some 2
  else if kind = 0x15 then some 1
  else if kind = 0x20 ∨ kind = 0x21 ∨ kind = 0x22 then some 0
  else none

/-- ABORT, RELEASE and RESEND (R5). -/
def isControl (kind : Byte) : Bool := kind == 0x20 || kind == 0x21 || kind == 0x22

/-- The tag a frame names; its number is below 16 once check 5 has passed. -/
def Frame.tagNo (f : Frame) : TagNo := Fin.ofNat 16 f.tag.toNat

/-- The drive a frame names; the field is 0 or 1 once check 7 has passed. -/
def Frame.driveNo (f : Frame) : Drive := if f.byte 0 = 0 then .d0 else .d1

/-- The sector a READ, WRITE or VERIFY names (Table 12-3). -/
def Frame.sectorAddr (f : Frame) : SectorAddr :=
  ⟨(f.byte 1).toNat, (f.byte 2).toNat, (f.byte 3).toNat⟩

/-- The parameter ranges of Table 1-5, with those of Table 3-2 for DEFINE (check 9). -/
def paramsInRange (g : DriveRecord) (f : Frame) : Bool :=
  let v := fun i => (f.byte i).toNat
  if f.kind = 0x10 ∨ f.kind = 0x12 then
    decide (v 1 < g.tracks ∧ v 2 < g.sides ∧ v 3 < g.sectors)
  else if f.kind = 0x11 then decide (v 1 < g.tracks ∧ v 2 < g.sides ∧ v 3 < g.sectors ∧ v 4 ≤ 1)
  else if f.kind = 0x13 then decide (v 1 < g.tracks ∧ v 2 < g.sides)
  else if f.kind = 0x14 then decide (v 1 < g.tracks)
  else if f.kind = 0x03 then decide (v 1 ≤ 1)
  else if f.kind = 0x02 then
    decide ((1 ≤ v 1 ∧ v 1 ≤ 96) ∧ (1 ≤ v 2 ∧ v 2 ≤ 2) ∧ (4 ≤ v 3 ∧ v 3 ≤ 24)
      ∧ (2 ≤ v 4 ∧ v 4 ≤ 30) ∧ (5 ≤ v 5 ∧ v 5 ≤ 60) ∧ (2 ≤ v 7 ∧ v 7 ≤ 50) ∧ v 8 ≤ 7 ∧ v 9 ≤ 15
      ∧ v 10 ≤ 96)
  else true

/-- The tag is HELD with a request bound to this buffer. -/
def TagState.holds (x : TagState) (b : BufNo) : Bool :=
  match x with
  | .held r _ => r.work.buffer? == some b
  | _ => false

/-- A buffer that an acceptance on the tag may bind: a free one, or the tag's own when it is HELD (R11,
R128). -/
def State.freeFor (s : State) (t : TagNo) (b : BufNo) : Bool :=
  (s.buffer b).binding == .free || (s.tag t).holds b

/-- Check 6 of a tagged request: QUEUED, ACTIVE, DONE and SENDING refuse (R8). -/
def TagState.busy : TagState → Bool
  | .free => false
  | .held _ _ => false
  | _ => true

/-- The reason for which a target state refuses a control message, if it does (Table 1-7, R18, R21, R24,
R25). -/
def TagState.refuses (x : TagState) (kind : Byte) : Option Reason :=
  match x with
  | .free => some .noSuchTag
  | .queued _ _ => if kind = 0x20 then none else some .notDone
  | .active _ _ ph marked =>
    if kind = 0x20 then (if ph = .pass ∧ marked = true then some .alreadyPending else none)
    else some .notDone
  | .done _ _ =>
    if kind = 0x20 then some .tooLate else if kind = 0x22 then some .alreadyPending else none
  | .sending _ _ released =>
    if kind = 0x20 then some .tooLate
    else if kind = 0x22 ∨ released = true then some .alreadyPending else none
  | .held _ _ => if kind = 0x20 then some .tooLate else none

/-- The checks of Table 1-3 in order, each with whether it fails and its reason (R5). -/
def State.checks (s : State) (f : Frame) : List (Bool × Reason) :=
  let t := f.tagNo
  let d := f.driveNo
  [((bodyLength f.kind).isNone, .unknownKind),
   (bodyLength f.kind != some f.body.length, .badLength),
   (s.session == 0, .notOpen),
   (f.session != s.session, .stale),
   (decide (16 ≤ f.tag.toNat), .badTag)]
    ++ if isControl f.kind then
        match (s.tag t).refuses f.kind with
        | some e => [(true, e)]
        | none => []
      else
        [((s.tag t).busy, .tagBusy),
         (decide (1 < (f.byte 0).toNat), .badDrive),
         (f.kind != 0x02 && f.kind != 0x03 && (s.drive d).spindle.condition == .undefined, .notDefined),
         (!paramsInRange (s.geometry d) f, .outOfRange),
         ((f.kind == 0x10 || f.kind == 0x11) && (List.finRange 8).all fun b => !s.freeFor t b, .noBuffer),
         (f.kind == 0x02 && !s.isIdle d, .driveBusy)]

/-- The reason of the first check that fails (R5). -/
def State.firstFailure (s : State) (f : Frame) : Option Reason :=
  ((s.checks f).find? (·.1)).map (·.2)

/-- The lowest-numbered buffer an acceptance on the tag may bind (R128). -/
def State.lowestFor (s : State) (t : TagNo) (b : BufNo) : Prop :=
  s.freeFor t b = true ∧ ∀ c : BufNo, c < b → s.freeFor t c = false

/-- A request has joined the tail of its drive's queue as a new QUEUED tag, and nothing else has changed
but the buffers (R14, R27). -/
structure State.Joins (s q : State) (d : Drive) (t : TagNo) (r : Request) : Prop where
  tag : q.tag t = .queued r 0
  others : ∀ u, u ≠ t → q.tag u = s.tag u
  drive : q.drive d = { s.drive d with queue := (s.drive d).queue ++ [t] }
  otherDrive : q.drive d.other = s.drive d.other
  stamp : r.stamp = s.nextStamp ∧ q.nextStamp = s.nextStamp + 1
  fields : r.drive = d ∧ r.session = s.session ∧ r.written = 0
  rest : q = { s with
    tags := q.tags, units := q.units, buffers := q.buffers, nextStamp := q.nextStamp }

/-! ### Scheduling in the manual's words -/

/-- A member of a queue is the best of the candidates: its cost is the least, and it is the oldest among
equals (R33, R36, R37). -/
def BestOf (candidate : TagNo → Bool) (cost : TagNo → Nat) (queue : List TagNo) (t : TagNo) : Prop :=
  ∃ older newer, queue = older ++ t :: newer ∧ candidate t = true
    ∧ (∀ u ∈ older, candidate u = true → cost t < cost u)
    ∧ (∀ u ∈ newer, candidate u = true → cost t ≤ cost u)

/-- The pulse after a rotational position, with S sectors (R69, R70). -/
def pulseAfter (sectors : Nat) : Position → Pulse
  | .index => .sector 0
  | .sector n => if n + 1 < sectors then .sector (n + 1) else .index
  | .unknown => .index

/-- The rotational position a pulse brings (R60). -/
def Pulse.position : Pulse → Position
  | .index => .index
  | .sector n => .sector n

/-- The position after a number of pulses. -/
def positionAfter (sectors : Nat) (pos : Position) : Nat → Position
  | 0 => pos
  | n + 1 => (pulseAfter sectors (positionAfter sectors pos n)).position

/-- A position that a turning drive with S sectors can have (R60). -/
def Position.onTrack (sectors : Nat) : Position → Bool
  | .unknown => false
  | .index => true
  | .sector n => decide (n < sectors)

/-- The overtaking conditions 1 to 6 of R42, for a newcomer and the ACTIVE request in ROTATE. -/
structure State.MayOvertake (s : State) (d : Drive) (newTag : TagNo) (new act : Request)
    (passed : Nat) : Prop where
  newKind : new.work.isSectorWork = true
  actKind : act.work.isSectorWork = true
  track : new.work.track = act.work.track
  wait : s.waitOf d new.work < s.waitOf d act.work
  below : passed < (s.geometry d).ageLimit
  noneAtLimit : ∀ t ∈ (s.drive d).queue, t ≠ newTag → (s.tag t).passed ≠ (s.geometry d).ageLimit

/-! ### Outbound frames in the manual's words -/

/-- The bytes of a frame on the line: the opening mark, the content with its escapes, the closing mark (R149). -/
def framed (content : List Byte) : List Byte :=
  [0xF9] ++ content.flatMap (fun b =>
    if b = 0xF9 then [0xF8, 0xD9] else if b = 0xF8 then [0xF8, 0xD8] else [b]) ++ [0xF9]

/-- The status codes of Table 12-8. -/
def statusByte : Status → Byte
  | .ok => 0x00 | .aborted => 0x01 | .notReady => 0x02 | .mediaLost => 0x03 | .wrongMedia => 0x04
  | .writeProtected => 0x05 | .noSync => 0x06 | .idMismatch => 0x07 | .dataCheck => 0x08
  | .verifyMismatch => 0x09 | .seekFail => 0x0A

/-- The reason codes of Table 12-8. -/
def reasonByte : Reason → Byte
  | .check => 0x01 | .badEscape => 0x02 | .long => 0x03 | .short => 0x04 | .timeout => 0x05
  | .line => 0x06 | .unknownKind => 0x10 | .badLength => 0x11 | .notOpen => 0x12 | .stale => 0x13
  | .badTag => 0x14 | .tagBusy => 0x15 | .badDrive => 0x16 | .notDefined => 0x17 | .outOfRange => 0x18
  | .noBuffer => 0x19 | .driveBusy => 0x1A | .noSuchTag => 0x1B | .notDone => 0x1C | .tooLate => 0x1D
  | .alreadyPending => 0x1E

/-- The event set byte of Table 12-9, as the sum of the values of its bits. -/
def eventByte (set : EventSet) : Byte :=
  BitVec.ofNat 8 (set.noMedia.toNat + 2 * set.spinFail.toNat + 4 * set.mediaLost.toNat
    + 8 * set.wrongMedia.toNat + 16 * set.headFault.toNat)

/-- A number as one byte of a frame. -/
def oneByte (n : Nat) : Byte := BitVec.ofNat 8 n

/-- A number as two bytes of a frame, high byte first (Table 12-6). -/
def twoBytes (n : Nat) : List Byte := [BitVec.ofNat 8 (n / 256), BitVec.ofNat 8 n]

/-- The snapshot's 22 bytes, offset by offset, with the codes of Table 12-7 (Table 12-6). -/
def snapshotBytes (q : Snapshot) : List Byte :=
  [if q.drive = .d0 then 0x00 else 0x01,
   match q.condition with | .undefined => 0x00 | .stopped => 0x01 | .starting => 0x02 | .turning => 0x03,
   match q.media with | .unknown => 0x00 | .present => 0x01 | .absent => 0x02,
   (q.headTrack.map oneByte).getD 0xFF,
   if q.moving = true then 0x01 else 0x00,
   match q.position with | .sector n => oneByte n | .index => 0xFE | .unknown => 0xFF]
  ++ twoBytes ((q.period.map (·.toNat)).getD 0)
  ++ [if q.writeProtect = true then 0x01 else 0x00,
      oneByte q.queueLength,
      match q.activeTag with | some t => oneByte t.val | none => 0xFF,
      match q.reservation with | some .d0 => 0x00 | some .d1 => 0x01 | none => 0xFF]
  ++ twoBytes q.stats.sectorsRead ++ twoBytes q.stats.sectorsWritten ++ twoBytes q.stats.failedAttempts
  ++ twoBytes q.stats.misses ++ twoBytes q.stats.recalibrations

/-- The content length of an entry's frame (Table 12-4). -/
def State.contentLength (s : State) : Entry → Option Nat
  | .started (.restarted _) => some 9
  | .started .opened => some 13
  | .event _ _ => some 7
  | .notice _ _ _ _ => some 8
  | .reply t =>
    match (s.tag t).final? with
    | none => none
    | some (r, final) =>
      some (match r.work with
        | .define => 8
        | .query _ _ => 29
        | .read _ _ _ => if final.status = .ok ∨ final.status = .dataCheck then 268 else 12
        | .write _ _ _ _ _ => 13
        | .verify _ _ => 12
        | .format _ _ _ => 11
        | .seek _ => 9
        | .recal => 9)

/-- A notice added to a list: a new entry at the tail while fewer than five are held, otherwise the more
count of the newest raised, where 255 stays (R137). -/
def NoticeAdded (l l' : List Entry) (reason : Reason) (kind tag : Byte) : Prop :=
  if noticeCount l < 5 then l' = l ++ [.notice reason kind tag 0]
  else ∃ older newer r k t more, l = older ++ .notice r k t more :: newer
    ∧ newer.all (fun e => !e.isNotice) = true
    ∧ l' = older ++ .notice r k t (if more < 255 then more + 1 else more) :: newer

/-- An event added to a list: merged into its drive's entry where one waits, otherwise a new entry at the
tail (R136). -/
def EventAdded (l l' : List Entry) (d : Drive) (ev : DriveEvent) : Prop :=
  (∀ set, .event d set ∉ l) ∧ l' = l ++ [.event d (.single ev)]
    ∨ ∃ older set newer, l = older ++ .event d set :: newer
      ∧ l' = older ++ .event d (set.insert ev) :: newer

/-- A notice has been added, with STALL following the number held, and nothing else has changed (R12, R137,
R139). -/
structure State.Notices (s q : State) (reason : Reason) (kind tag : Byte) : Prop where
  list : NoticeAdded s.list q.list reason kind tag
  stall : q.stall = decide (4 ≤ noticeCount q.list)
  rest : q = { s with list := q.list, stall := q.stall }

/-- The link fault that a character causes, with the receiver state it leaves (Tables 10-2 and 10-3). A
character with a missing stop bit carries no data bits. -/
def RxPhase.faultOn (x : RxPhase) (b : Byte) (stopBit : Bool) : Option (Reason × RxPhase) :=
  match x with
  | .idle => none
  | .gather content =>
    if stopBit = false then some (.line, .idle)
    else if b = 0xF9 then
      if content.length = 0 then none
      else if content.length < 5 then some (.short, .gather [])
      else if linkCheck (content.take (content.length - 2))
          ≠ word16Of (content.getD (content.length - 2) 0) (content.getD (content.length - 1) 0) then
        some (.check, .gather [])
      else none
    else if b = 0xF8 then none
    else if content.length < 268 then none
    else some (.long, .idle)
  | .escape content =>
    if stopBit = false then some (.line, .idle)
    else if b = 0xF9 then some (.badEscape, .gather [])
    else if b = 0xD8 ∨ b = 0xD9 then if content.length < 268 then none else some (.long, .idle)
    else some (.badEscape, .idle)

/-- The buffers when an acceptance on a tag has released it if it was HELD and bound one of them or none:
contents stay, the tag's own buffer is freed (R13, R128). -/
def State.BuffersReleased (s q : State) (t : TagNo) (bound : Option BufNo) : Prop :=
  ∀ c, some c ≠ bound → (q.buffer c).contents = (s.buffer c).contents
    ∧ (q.buffer c).binding = if (s.tag t).holds c then .free else (s.buffer c).binding

/-- A motion whose request has gone: withdrawn in WAITING, otherwise detached (R90). -/
def motionLeft : Option Motion → Option Motion
  | none => none
  | some m => if m.stage = .waiting then none else some { m with owner := .detached }

/-! ### Counters, motions and the bus in the manual's words -/

/-- A counter raised by one; 65535 stays (R53). -/
def raised (n : Nat) : Nat := if n < 65535 then n + 1 else n

/-- The lines of the drive port while no drive holds the bus (R94). -/
def Port.idle (p : Port) : Port :=
  { p with sel := ⟨false, false⟩, wgate := false, comp := false, wdata := [] }

/-- One pulse on STEP toward a drive in a direction, its head left so, and the step timer started for the
step interval of its record (R84, R85, R86). -/
def State.stepped (s : State) (d : Drive) (dir : Direction) (h : Head) : State :=
  { s with
    port := { s.port with dir := dir, steps := s.port.steps.set d (s.port.steps.get d + 1) }
    units := s.units.set d
      { s.drive d with head := { h with stepTimer := some (10 * (s.geometry d).stepInterval) } } }

/-- Stepping has ended without a fault: the hold is released, the head SETTLING at the motion's target with
the settle timer running, and the owner's phase SETTLE (R87, R101). -/
structure State.Settles (s q : State) (d : Drive) (m : Motion) : Prop where
  drive : q.drive d = { s.drive d with
    head := ⟨.settling m.target, some m.target, some { m with stage := .settling }, none,
      some (10 * (s.geometry d).settleTime)⟩ }
  other : q.drive d.other = s.drive d.other
  bus : q.bus = { s.bus with holder := none }
  port : q.port = s.port.idle
  owner : ∀ t r p ph k, m.owner = .tag t → s.tag t = .active r p ph k →
    q.tag t = .active r p .settle k
  others : ∀ t, m.owner ≠ .tag t → q.tag t = s.tag t
  rest : q = { s with units := q.units, bus := q.bus, port := q.port, tags := q.tags }

/-- A recalibration has failed: the event, the release of the hold, a lost head, and the owner's
SEEK_FAIL (R88, R135). -/
structure State.HeadFails (s q : State) (d : Drive) (m : Motion) : Prop where
  drive : q.drive d = { s.drive d with head := ⟨.unknown, none, none, none, none⟩ }
  other : q.drive d.other = s.drive d.other
  bus : q.bus = { s.bus with holder := none }
  port : q.port = s.port.idle
  owner : ∀ t r p ph k, m.owner = .tag t → s.tag t = .active r p ph k →
    q.tag t = .done r ⟨.seekFail, none⟩ ∧
      ∃ l, EventAdded s.list l d .headFault ∧ q.list = l ++ [.reply t]
  detached : m.owner = .detached → EventAdded s.list q.list d .headFault
  others : ∀ t, m.owner ≠ .tag t → q.tag t = s.tag t
  rest : q = { s with
    units := q.units, bus := q.bus, port := q.port, tags := q.tags, list := q.list, stall := q.stall }

/-- The grant of a STEP hold: the holder, the alternation memory, the select lines (R94, R95), and for a
recalibration its counter (R84). -/
def State.stepGranted (s : State) (d : Drive) (recalibrates : Bool) : State :=
  { s with
    bus := { s.bus with holder := some ⟨d, .step⟩, alternation := some d }
    port := { s.port with sel := match d with | .d0 => ⟨true, false⟩ | .d1 => ⟨false, true⟩ }
    units := s.units.set d { s.drive d with stats := { (s.drive d).stats with
      recalibrations := if recalibrates then raised (s.drive d).stats.recalibrations
        else (s.drive d).stats.recalibrations } } }

/-- A drive has a STEP need that the reservation does not bar (R96). -/
def State.CanStep (s : State) (d : Drive) : Prop :=
  (∃ m, (s.drive d).head.motion = some m ∧ m.stage = .waiting) ∧ s.bus.reservation ≠ some d.other

/-- The pass that a request is due, as it begins (Table 7-2). -/
def Request.duePass (r : Request) (t : TagNo) : Option Pass :=
  match r.work with
  | .read a b _ =>
    some ⟨r.drive, a.track, a.side, .tag t, some b, .reading false a.sector .searching⟩
  | .verify a _ => some ⟨r.drive, a.track, a.side, .tag t, none, .reading false a.sector .searching⟩
  | .write a _ b _ due =>
    some ⟨r.drive, a.track, a.side, .tag t, some b,
      if due then .reading true a.sector .searching else .writing a.sector .gateOpen⟩
  | .format track side fill =>
    some ⟨r.drive, track, side, .tag t, none, .formatting fill none 0 false⟩
  | _ => none

/-- The pass writes the media, so its grant samples WPROTn (R99). -/
def Pass.writes (p : Pass) : Bool :=
  match p.body with
  | .reading _ _ _ => false
  | .writing _ _ => true
  | .formatting _ _ _ _ => true

/-- The outcome of a read, write or check pass that its ending pulse finds so (R108, R109, R112). -/
def PassBody.found : PassBody → Outcome
  | .reading _ _ (.decided o _) => o
  | .writing _ .complete => .written
  | _ => .noSync

/-- A pass has ended and its outcome has not yet reached its owner: a read pass's data are placed, the hold
is released and the record ceases (R107, R110, R129). -/
def State.passOver (s : State) (p : Pass) : State :=
  { s with
    pass := none, bus := { s.bus with holder := none }, port := s.port.idle
    buffers := match p.body, p.buffer with
      | .reading false _ (.decided o (some data)), some b =>
        if o = .ok ∨ o = .dataCheck then s.buffers.set b { s.buffer b with contents := data }
        else s.buffers
      | _, _ => s.buffers }

/-- The work of a request after a failed attempt, with the check-due mark cleared by a check pass (R117). -/
def Work.afterFailure (w : Work) (check : Bool) (l : Ladder) : Work :=
  match w with
  | .read a b _ => .read a b l
  | .write a v b _ due => .write a v b l (due && !check)
  | .verify a _ => .verify a l
  | w => w

/-! ### The transmitter -/

/-- The tag is DONE (R3). -/
def TagState.isDone : TagState → Bool
  | .done _ _ => true
  | _ => false

/-- An EVENT entry's set is never empty (R134) and a more count is at most 255 (R137). -/
def Entry.inBounds : Entry → Bool
  | .event _ set => set.code != 0
  | .notice _ _ _ more => decide (more ≤ 255)
  | _ => true

/-- The transmit list and the frame being sent (R134, R139, R140, R23). STALL and the frame on TXD are
forced idle while the part is held in reset (R163), and the last three relations hold outside it. -/
structure State.TransmitOk (s : State) : Prop where
  notices : noticeCount s.list ≤ Config.noticeSlots
  started : s.list.countP Entry.isStarted ≤ 1
  events : ∀ d, s.list.countP (Entry.isEventOf d) ≤ 1
  replies : ∀ t, s.list.count (.reply t) = if (s.tag t).isDone then 1 else 0
  entries : ∀ e ∈ s.list, e.inBounds = true
  stall : s.resetHold = none → s.stall = decide (4 ≤ noticeCount s.list)
  sending : s.resetHold = none → ∀ t, (s.tag t).isSending = s.tx.any fun f => f.reply == some t
  idle : s.resetHold = none → s.tx = none → s.hold = false → s.list = []

/-! ### The receiver -/

/-- The receiver's content limit and its timer by state (R151, R155). -/
def Receiver.inBounds (x : Receiver) : Bool :=
  match x.phase with
  | .idle => x.timer == none
  | .gather [] => x.timer == none
  | .gather content =>
    x.timer == some Config.interByteLimit && decide (content.length ≤ Config.contentLimit)
  | .escape content =>
    x.timer == some Config.interByteLimit && decide (content.length ≤ Config.contentLimit)

/-! ### The drive bus -/

/-- The write gate belongs to this pass: its record is being written (R111, R115). -/
def Pass.gateOpen (p : Pass) : Bool :=
  match p.body with
  | .writing _ .gateOpen => true
  | .formatting _ (some ⟨_, .gateOpen⟩) _ _ => true
  | _ => false

/-- The holder, the select lines, the pass and the write gate (R84, R93, R94, R105). -/
structure State.BusOk (s : State) : Prop where
  selected : ∀ d, s.port.sel.get d = s.bus.holder.any fun h => h.drive == d
  passHolds : ∀ p, s.pass = some p → s.bus.holder = some ⟨p.drive, .pass⟩
  stepHolds : ∀ d m, (s.drive d).head.motion = some m → m.stage = .stepping →
    s.bus.holder = some ⟨d, .step⟩
  gate : s.port.wgate = s.pass.any Pass.gateOpen
  comp : s.port.comp = true → s.port.wgate = true
  data : s.port.wgate = false → s.port.wdata = []

/-! ### Queues and requests -/

/-- The tag is QUEUED with a request for the drive. -/
def TagState.queuedOn (x : TagState) (d : Drive) : Bool :=
  match x with
  | .queued r _ => r.drive == d
  | _ => false

/-- The drive queues (R27), the arrival stamps (R1), the one ACTIVE request of a drive (R30) and the
passed counts (R40). -/
structure State.QueueOk (s : State) : Prop where
  member : ∀ d t, t ∈ (s.drive d).queue ↔ (s.tag t).queuedOn d = true
  nodup : ∀ d, (s.drive d).queue.Nodup
  order : ∀ d, (s.drive d).queue.Pairwise fun t u => s.stampOf t ≤ s.stampOf u
  stamps : ∀ t r, (s.tag t).request? = some r → r.stamp < s.nextStamp
  single : ∀ d t u, (s.tag t).activeOn d = true → (s.tag u).activeOn d = true → t = u
  aged : ∀ d t, (s.tag t).queuedOn d = true ∨ (s.tag t).activeOn d = true →
    (s.tag t).passed ≤ (s.geometry d).ageLimit

/-! ### Spindles and counters -/

/-- Every counter is at most 65535 (R53). -/
def Stats.inBounds (c : Stats) : Bool :=
  decide (c.sectorsRead ≤ 65535) && decide (c.sectorsWritten ≤ 65535)
    && decide (c.failedAttempts ≤ 65535) && decide (c.misses ≤ 65535)
    && decide (c.recalibrations ≤ 65535)

/-- The revolution count by rotational position, with S sectors (R69, R70). -/
def Spindle.counted (x : Spindle) (sectors : Nat) : Bool :=
  match x.position with
  | .unknown => false
  | .index => x.revCount == some 0
  | .sector n => x.revCount == some (n + 1) && decide (n < sectors)

/-- The fields of a Spindle Monitor by its condition (R60, R61, R63, R65, R73). -/
def Spindle.inOrder (x : Spindle) (sectors : Nat) : Bool :=
  match x.condition with
  | .undefined => x == .still .undefined .unknown
  | .stopped => x == .still .stopped x.media
  | .starting =>
    x.motor && x.media == .unknown && x.position == .unknown && x.period == none && x.revCount == none
      && x.measure.isSome && x.spinUpTimer.isSome && x.watchdog == none && x.runOnTimer == none
  | .turning =>
    x.motor && x.media == .present && x.counted sectors && x.period.isSome && x.measure == none
      && x.spinUpTimer == none && x.watchdog.isSome

/-- Both drives' records, spindles and counters (R47, R48, R53, R60). -/
structure State.DrivesOk (s : State) : Prop where
  record : ∀ d, match (s.drive d).record with
    | none => (s.drive d).spindle.condition = .undefined
    | some g => g.inRange = true
  spindle : ∀ d, (s.drive d).spindle.inOrder (s.geometry d).sectors = true
  stats : ∀ d, (s.drive d).stats.inBounds = true

/-! ### Work in progress -/

/-- A head at rest: UNKNOWN or AT a track the drive has, with no timer (R81, R82). -/
def Head.atRest (h : Head) (tracks : Nat) : Bool :=
  (match h.state with
    | .unknown => h.running == none
    | .onTrack t => h.running == some t && decide (t < tracks)
    | _ => false) && h.stepTimer == none && h.settleTimer == none

/-- The head state, running position and timers by the stage of the motion in hand (R81, R83 to R87). -/
def Head.inOrder (h : Head) (tracks : Nat) : Bool :=
  match h.motion with
  | none => h.atRest tracks
  | some m =>
    decide (m.target < tracks) &&
      match m.stage with
      | .waiting =>
        h.atRest tracks && m.stepCount == 0 && (m.kind != .seek || h.running.isSome)
      | .stepping =>
        h.state == .moving m.target && h.stepTimer.isSome && h.settleTimer == none
          && decide (m.stepCount ≤ tracks + 8)
          && (match h.running with
            | none => m.kind != .seek
            | some p => decide (p < tracks))
      | .settling =>
        h.state == .settling m.target && h.running == some m.target && h.stepTimer == none
          && h.settleTimer.isSome

/-- A pass is one that the request's kind gives (Table 7-2): its buffer, and a format revolution for FORMAT
alone. -/
def Pass.fits (p : Pass) (w : Work) : Bool :=
  p.buffer == w.buffer? &&
    match p.body with
    | .formatting _ _ _ _ => !w.isSectorWork
    | _ => w.isSectorWork

/-- A pass is under way on the drive. -/
def State.passOn (s : State) (d : Drive) : Bool := s.pass.any fun p => p.drive == d

/-- What an ACTIVE request has under way in each phase (R3, R106): its own motion toward its track in
POSITION and SETTLE, a head AT its track with nothing under way in ROTATE, its own pass in PASS. -/
def State.phaseFits (s : State) (t : TagNo) (r : Request) : Phase → Bool
  | .position =>
    !s.passOn r.drive && (s.drive r.drive).head.motion.any fun m =>
      m.owner == .tag t && m.target == r.work.track && m.stage != .settling
  | .settle =>
    !s.passOn r.drive && (s.drive r.drive).head.motion.any fun m =>
      m.owner == .tag t && m.target == r.work.track && m.stage == .settling
  | .rotate =>
    !s.passOn r.drive && (s.drive r.drive).head.motion == none && r.work.startingPulse.isSome
      && (s.drive r.drive).head.state == .onTrack r.work.track
  | .pass =>
    (s.drive r.drive).head.motion == none && r.work.startingPulse.isSome
      && (s.drive r.drive).head.state == .onTrack r.work.track
      && s.pass.any fun p => p.owner == .tag t && p.drive == r.drive && p.fits r.work

/-- Requests, motions, passes, the reservation and the buffers between happenings (R26, R30 to R32, R77,
R90, R95, R96, R100, R127). -/
structure State.WorkOk (s : State) : Prop where
  active : ∀ t r p ph m, s.tag t = .active r p ph m →
    s.phaseFits t r ph = true ∧ (m = true → ph = .pass) ∧ s.isTurning r.drive = true
  tracks : ∀ d t, (s.tag t).queuedOn d = true ∨ (s.tag t).activeOn d = true →
    ∀ w, s.work? t = some w → w.track < (s.geometry d).tracks
  motionOwner : ∀ d m, (s.drive d).head.motion = some m → ∀ t, m.owner = .tag t →
    (s.tag t).activeOn d = true
  passOwner : ∀ p, s.pass = some p → s.isTurning p.drive = true ∧
    ∀ t, p.owner = .tag t → (s.tag t).activeOn p.drive = true
  detachedMotion : ∀ d m, (s.drive d).head.motion = some m → m.owner = .detached →
    m.stage ≠ .waiting ∧ s.activeTag d = none ∧ s.passOn d = false
  detachedPass : ∀ p, s.pass = some p → p.owner = .detached →
    s.activeTag p.drive = none ∧ (s.drive p.drive).head.motion = none
  head : ∀ d, (s.drive d).head.inOrder (s.geometry d).tracks = true
  idleWork : ∀ d, s.isTurning d = true → s.isFree d = true →
    (s.drive d).queue = [] ∧ (s.drive d).spindle.runOnTimer.isSome = true
  runOn : ∀ d, (s.drive d).spindle.runOnTimer.isSome = true →
    s.isTurning d = true ∧ s.isFree d = true ∧ (s.drive d).queue = []
  waiting : ∀ d, (s.drive d).queue ≠ [] →
    (s.drive d).spindle.condition = .starting ∨ (s.drive d).spindle.condition = .turning
  defined : ∀ d, match (s.drive d).record with
    | none => s.drive d = .fresh
    | some g => g.inRange = true ∧ (s.drive d).spindle.condition ≠ .undefined
  reserved : ∀ d, s.bus.reservation = some d →
    ∃ t r p m, s.tag t = .active r p .rotate m ∧ r.drive = d
  held : ∀ h, s.bus.holder = some h →
    match h.kind with
    | .step => ((s.drive h.drive).head.motion.any fun m => m.stage == .stepping) = true
    | .pass => s.passOn h.drive = true
  granted : s.bus.holder = none → s.nextGrant = none
  bound : ∀ b t, (s.buffer b).binding = .tag t ↔ (s.work? t).bind Work.buffer? = some b
  boundDetached : ∀ b, (s.buffer b).binding = .detachedPass ↔
    (s.pass.any fun p => p.owner == .detached && p.buffer == some b) = true
  closed : s.session = 0 → (∀ t, s.tag t = .free) ∧ s.units = ⟨.fresh, .fresh⟩ ∧ s.pass = none
  accepted : ∀ t r, (s.tag t).request? = some r → (s.tag t).isSending = false →
    r.session = s.session

/-- Every invariant of the part; those of the work in progress hold outside a reset, which abandons that
work before it clears it (R163). -/
structure State.Coherent (s : State) : Prop where
  transmit : s.TransmitOk
  receiver : s.rx.inBounds = true
  bus : s.BusOk
  queues : s.QueueOk
  drives : s.DrivesOk
  work : s.resetHold = none → s.WorkOk

end Sys2Proof.Machine
end

