-- ==== Sys2Proof/WellFormed.lean ====
section
/-! DEFINITION. Which commands the part's interface can carry: the content limit of the link (R149),
the kind codes that are unknown (R6), and the intervals that fit in a spin-up (R64). A command that is
not well formed is no happening of the part; `Machine.exec` still answers for it, by the same rules. -/

namespace Sys2Proof

/-- The kind codes of Table 12-2 that the host sends (R165). -/
def knownKinds : List Byte :=
  [0x01, 0x02, 0x03, 0x10, 0x11, 0x12, 0x13, 0x14, 0x15, 0x20, 0x21, 0x22]

/-- The body of a frame within the content limit: content is the body and five bytes more (R6, R149). -/
def bodyFits (body : List Byte) : Bool := decide (body.length + 5 ≤ Config.contentLimit)

/-- The command is one that the part's interface can carry. -/
def Instr.wellFormed : Instr → Bool
  | .openSession _ _ body => bodyFits body
  | .define _ _ body => bodyFits body
  | .query _ _ _ body => bodyFits body
  | .read _ _ _ body => bodyFits body
  | .write _ _ _ body => bodyFits body
  | .verify _ _ _ body => bodyFits body
  | .format _ _ _ body => bodyFits body
  | .seek _ _ _ body => bodyFits body
  | .recal _ _ _ body => bodyFits body
  | .abort _ _ _ body => bodyFits body
  | .release _ _ body => bodyFits body
  | .resend _ _ body => bodyFits body
  | .unknownKind kind _ _ body => bodyFits body && !knownKinds.contains kind
  | .indexPulse _ _ interval => decide (1 ≤ interval.toNat ∧ interval.toNat ≤ 50000)
  | .resetBegin _ => true
  | .hardwareReset _ _ => true
  | .rxByte _ _ _ => true
  | .timeout => true
  | .holdAsserted => true
  | .holdDeasserted => true
  | .frameEnd => true
  | .sectorPulse _ _ => true
  | .spinUpTimerExpiry _ _ => true
  | .indexWatchdogExpiry _ _ => true
  | .runOnTimerExpiry _ => true
  | .syncMarkFound => true
  | .idComplete _ _ => true
  | .recordComplete _ _ => true
  | .writeComplete => true
  | .formatSectorComplete => true
  | .stepTimerExpiry _ _ => true
  | .settleTimerExpiry _ _ => true

end Sys2Proof
end

