-- ==== Sys2Proof/Certificates/Slice0/Obligations.lean ====
section
/-! DEFINITION. The statements about the SQ20, taken from the manual's numbered rules. A statement about a
command has the form "exec answers next", with the state spelled out or described field by field. Where a
command's happening goes on with the grants and the frame that end every happening (R96, R140), the
conclusion is `next q.endHappening` with `q` described; what those two do is stated once, by
`Obligations.StepNeedsAreGranted` and `Obligations.FrameBegins`. -/

open Sys2Proof Sys2Proof.Machine

/-! ### The queue of commands and hardware reset -/

/-- Model's choice, log entry 5: a step executes the command that waits longest, and idles with none. -/
def Obligations.StepRunsFrontCommand : Prop :=
  (∀ (s : State) (c : Instr) (rest : List Instr), s.pending = c :: rest →
      step s = exec c { s with pending := rest })
    ∧ ∀ s : State, s.pending = [] → step s = .next s

/-- Model's choice, log entry 5: no command touches the queue of waiting commands. -/
def Obligations.CommandsKeepTheQueue : Prop :=
  ∀ (c : Instr) (s t : State), exec c s = .next t → t.pending = s.pending

/-- Every invariant holds of the state after reset. -/
def Obligations.ResetIsCoherent : Prop := State.reset.Coherent

/-- R163, R2, R48, R61, R82, R93, R127, R151: a power-up that ends with HOLD not asserted leaves the reset
state, whatever came before. The straps low, the levels, DIR, SIDE, the step counts, the free buffer
contents and the number of draws are the model's (log entries 3, 4 and 6). -/
def Obligations.PowerUpReachesReset : Prop :=
  ∀ s : State, s.hold = false →
    ∃ t u, exec (.resetBegin .power) s = .next t ∧ exec (.hardwareReset false false) t = .next u
      ∧ u = { State.reset with
          buffers := u.buffers, draws := u.draws, levels := s.levels, pending := s.pending,
          port := { State.reset.port with
            dir := s.port.dir, side := s.port.side, steps := s.port.steps } }
      ∧ ∀ b, (u.buffer b).binding = .free

/-- R163, R146, R147, R162: hardware reset from any state, with the rate of the straps (Table 0-3) and
RESTARTED with the cause of the reset; the cause with no reset held is log entry 7. -/
def Obligations.HardwareResetAnnounces : Prop :=
  ∀ (s : State) (rate1 rate0 : Bool),
    ∃ t, exec (.hardwareReset rate1 rate0) s = .next t
      ∧ t.session = 0 ∧ (∀ u, t.tag u = .free) ∧ t.nextStamp = 0 ∧ (∀ d, t.drive d = .fresh)
      ∧ t.bus = ⟨none, none, none⟩ ∧ t.port.sel = ⟨false, false⟩ ∧ t.port.wgate = false
      ∧ t.port.comp = false ∧ t.port.steps = s.port.steps ∧ t.pass = none ∧ t.rx = ⟨.idle, none⟩
      ∧ t.stall = false ∧ t.resetHold = none ∧ t.hold = s.hold
      ∧ (∀ b, (t.buffer b).binding = .free)
      ∧ t.rate.bitsPerSecond =
          (match rate1, rate0 with
          | false, false => 9600 | false, true => 38400 | true, false => 115200 | true, true => 460800)
      ∧ (s.hold = true → t.tx = none ∧ t.list = [.started (.restarted (s.resetHold.getD .line))])
      ∧ (s.hold = false → t.list = [] ∧ t.tx = some ⟨none, onLine (framed (sealContent
          [0x81, 0x00, 0xFF, 0x2C, 0x14, 0x03, if s.resetHold = some .power then 0x01 else 0x02]))⟩)

/-- R163: a reset that begins deasserts the lines, cuts off the frame on TXD, drops the character being
received and abandons every pass and motion. Deduced: that the receiver and the bus hold take their reset
values then already (log entry 8), and that a power-up decides the cause (log entry 7). -/
def Obligations.ResetBeginReleasesLines : Prop :=
  ∀ (s : State) (cause : ResetCause),
    ∃ t, exec (.resetBegin cause) s = .next t
      ∧ (∀ d, (t.drive d).spindle.motor = false ∧ (t.drive d).head.motion = none
          ∧ (t.drive d).head.stepTimer = none)
      ∧ t.port.sel = ⟨false, false⟩ ∧ t.port.wgate = false ∧ t.port.comp = false
      ∧ t.port.steps = s.port.steps ∧ t.tx = none ∧ t.stall = false ∧ t.rx = ⟨.idle, none⟩
      ∧ t.pass = none ∧ t.bus.holder = none
      ∧ t.resetHold = some (if s.resetHold = some .power then .power else cause)

/-- R163: while the part is held in reset no character and no pulse is taken. Deduced (log entry 8): nor is
any other command but the two resets, except that HOLD, the host's own level, follows its commands. -/
def Obligations.HeldPartTakesNothing : Prop :=
  ∀ (c : Instr) (s : State), s.resetHold ≠ none → (∀ cause, c ≠ .resetBegin cause) →
    (∀ rate1 rate0, c ≠ .hardwareReset rate1 rate0) →
    exec c s = .next { s with
      hold := if c = .holdAsserted then true else if c = .holdDeasserted then false else s.hold }

/-! ### The serial link, inward -/

/-- R147, R148, R152 to R155: the eight data bits of a character are a byte, least significant first. In IDLE
a mark opens a frame and every other character is dropped; then what GATHER and ESCAPE append, with the
inter-byte timer of 32 byte-times. -/
def Obligations.ReceiverTakesCharacters : Prop :=
  (∀ data : Bits 8, ∃ b, data = dataOf b)
  ∧ ∀ (s : State) (lv : Levels) (b : Byte) (stopBit : Bool) (content : List Byte), s.resetHold = none →
    (s.rx.phase = .idle → exec (.rxByte lv (dataOf b) stopBit) s = .next { s with
      levels := lv, rx := if stopBit = true ∧ b = 0xF9 then ⟨.gather [], none⟩ else s.rx })
    ∧ (s.rx.phase = .gather [] →
      exec (.rxByte lv (dataOf 0xF9) true) s = .next { s with levels := lv, rx := ⟨.gather [], none⟩ })
    ∧ (s.rx.phase = .gather content →
      exec (.rxByte lv (dataOf 0xF8) true) s =
        .next { s with levels := lv, rx := ⟨.escape content, some 32⟩ })
    ∧ (s.rx.phase = .gather content → content.length < 268 → b ≠ 0xF9 → b ≠ 0xF8 →
      exec (.rxByte lv (dataOf b) true) s =
        .next { s with levels := lv, rx := ⟨.gather (content ++ [b]), some 32⟩ })
    ∧ (s.rx.phase = .escape content → content.length < 268 → b = 0xF8 ∨ b = 0xF9 →
      exec (.rxByte lv (dataOf (b ^^^ 0x20)) true) s =
        .next { s with levels := lv, rx := ⟨.gather (content ++ [b]), some 32⟩ })

/-- R148, R153, R154, R156, R157, Table 10-3: each link fault that a character causes lists a notice with
subject kind 0x00 and subject tag 0xFF, and discards the content with the timer stopped. -/
def Obligations.LinkFaultsListNotices : Prop :=
  ∀ (s : State) (lv : Levels) (b : Byte) (stopBit : Bool) (reason : Reason) (after : RxPhase),
    s.resetHold = none → s.rx.phase.faultOn b stopBit = some (reason, after) →
    ∃ q : State, exec (.rxByte lv (dataOf b) stopBit) s = .next q.endHappening
      ∧ ({ s with levels := lv, rx := ⟨after, none⟩ } : State).Notices q reason 0x00 0xFF

/-- R155, R157: the expiry of a running inter-byte timer is a TIMEOUT fault. A timer that is not running
does not expire (log entry 2). -/
def Obligations.InterByteTimerExpires : Prop :=
  ∀ s : State, s.resetHold = none →
    (s.rx.timer ≠ none → ∃ q : State, exec .timeout s = .next q.endHappening
      ∧ ({ s with rx := ⟨.idle, none⟩ } : State).Notices q .timeout 0x00 0xFF)
    ∧ (s.rx.timer = none → exec .timeout s = .next s)

/-- R153, R156: the closing mark of content whose check is right does what the frame's command does, with
the receiver in GATHER and its content empty. -/
def Obligations.ClosingMarkHandsOn : Prop :=
  ∀ (s : State) (lv : Levels) (kind session tag : Byte) (body : List Byte), s.resetHold = none →
    s.rx.phase = .gather (sealContent (kind :: session :: tag :: body)) →
    exec (.rxByte lv (dataOf 0xF9) true) s =
      exec (commandOf lv ⟨kind, session, tag, body⟩)
        { s with levels := lv, rx := ⟨.gather [], none⟩ }

/-- R147, R149, R150, R152 to R156: a frame sent as R149 gives it, its content within the limit, is taken by the
receiver as exactly the frame's command, from IDLE or from between frames. -/
def Obligations.SentFrameIsItsCommand : Prop :=
  ∀ (s : State) (lv : Levels) (kind session tag : Byte) (body : List Byte), s.resetHold = none →
    s.rx.phase = .idle ∨ s.rx.phase = .gather [] → body.length + 5 ≤ 268 →
    takeAll lv (framed (sealContent (kind :: session :: tag :: body))) s =
      exec (commandOf lv ⟨kind, session, tag, body⟩)
        { s with levels := lv, rx := ⟨.gather [], none⟩ }

/-- R104, R150: neither check misses an error confined to one byte. -/
def Obligations.OneByteErrorChangesCheck : Prop :=
  ∀ (before after : List Byte) (a b : Byte), a ≠ b →
    linkCheck (before ++ a :: after) ≠ linkCheck (before ++ b :: after)
    ∧ mediaCheck (before ++ a :: after) ≠ mediaCheck (before ++ b :: after)

/-- R149, R151, R155: every step keeps the receiver's content limit and its timer's law. -/
def Obligations.ReceiverIsKept : Prop :=
  ∀ s t : State, s.rx.inBounds = true → step s = .next t → t.rx.inBounds = true

/-! ### Outbound traffic -/

/-- R140, R142, R147, R149, R23, R139: a frame begins when the transmitter is idle, HOLD is not asserted and the
list is not empty, and goes onto TXD as the characters of its content with marks and escapes; HOLD_DEASSERTED is such a
moment. -/
def Obligations.FrameBegins : Prop :=
  (∀ s : State, exec .holdDeasserted s = .next ({ s with hold := false } : State).beginFrame)
    ∧ (∀ (s : State) (e : Entry) (rest : List Entry), s.tx = none → s.hold = false →
        s.resetHold = none → s.list = e :: rest →
        ∃ t, s.beginFrame = t ∧ t.tx = some ⟨e.reply?, onLine (framed (s.compose e))⟩ ∧ t.list = rest
          ∧ t.stall = decide (4 ≤ noticeCount rest)
          ∧ (∀ u r final, e = .reply u → s.tag u = .done r final → t.tag u = .sending r final false)
          ∧ (∀ u, e ≠ .reply u → t.tag u = s.tag u)
          ∧ t = { s with tx := t.tx, list := t.list, stall := t.stall, tags := t.tags })
    ∧ ∀ s : State, s.tx ≠ none ∨ s.hold = true ∨ s.resetHold ≠ none ∨ s.list = [] → s.beginFrame = s

/-- R142, R165, R167, R169, Tables 9-2, 12-5, 12-8 and 12-9: the content of each frame, byte by byte, but
for a REPLY's body, and its length (Table 12-4) within the content limit. -/
def Obligations.FrameContents : Prop :=
  ∀ s : State,
    (∀ e n, s.contentLength e = some n → (s.compose e).length = n ∧ n ≤ 268)
    ∧ (∀ t, ∃ body, s.compose (.reply t) = sealContent (0x83 :: s.session :: BitVec.ofNat 8 t.val :: body))
    ∧ (∀ d set, s.compose (.event d set) =
        sealContent [0x84, s.session, 0xFF, if d = .d0 then 0x00 else 0x01, eventByte set])
    ∧ (∀ reason kind tag more, s.compose (.notice reason kind tag more) =
        sealContent [0x85, s.session, tag, reasonByte reason, kind, oneByte more])
    ∧ (∀ cause, s.compose (.started (.restarted cause)) =
        sealContent [0x81, s.session, 0xFF, 0x2C, 0x14, 0x03, if cause = .power then 0x01 else 0x02])
    ∧ s.compose (.started .opened) =
        sealContent [0x82, s.session, 0xFF, 0x2C, 0x14, 0x03, 0x10, 0x08, 0x02, 0x01, 0x0C]

/-- R120, R130, R167 to R169, Tables 12-5 to 12-8: the body of a REPLY, byte by byte, for each request kind;
a READ's ends with the 256 bytes of its buffer, in order, when its status is OK or DATA_CHECK. -/
def Obligations.ReadReplyCarriesBuffer : Prop :=
  ∀ (s : State) (t : TagNo) (r : Request) (final : Final), (s.tag t).final? = some (r, final) →
    let drive : Byte := if r.drive = .d0 then 0x00 else 0x01
    let at3 := fun (a : SectorAddr) => [drive, oneByte a.track, oneByte a.side, oneByte a.sector]
    let reached := (final.reached.map oneByte).getD 0xFF
    s.compose (.reply t) = sealContent ([0x83, s.session, oneByte t.val, statusByte final.status]
      ++ match r.work with
        | .define => [0x02, drive]
        | .query _ snapshot => 0x03 :: snapshotBytes snapshot
        | .read a b l => 0x10 :: at3 a ++ [oneByte l.attempts]
            ++ if final.status = .ok ∨ final.status = .dataCheck then (s.buffer b).contents.val else []
        | .write a _ _ l _ => 0x11 :: at3 a ++ [oneByte l.attempts, oneByte r.written]
        | .verify a l => 0x12 :: at3 a ++ [oneByte l.attempts]
        | .format track side _ => [0x13, drive, oneByte track, oneByte side, oneByte r.written]
        | .seek _ => [0x14, drive, reached]
        | .recal => [0x15, drive, reached])

/-- R140: HOLD_ASSERTED acts only on the beginning of frames, and while HOLD is asserted no happening but
its deassertion begins one. -/
def Obligations.HoldStopsBeginning : Prop :=
  (∀ s : State, exec .holdAsserted s = .next { s with hold := true })
    ∧ ∀ (c : Instr) (s t : State), s.hold = true → c ≠ .holdDeasserted → exec c s = .next t →
        t.tx = s.tx ∨ t.tx = none

/-- R23, R131, R141: at the end of its frame a REPLY's tag becomes FREE, with its buffer, when it is
released or of an earlier session, and HELD otherwise; then the next frame may begin. -/
def Obligations.FrameEndSettlesTag : Prop :=
  ∀ (s : State) (f : TxFrame), s.resetHold = none → s.tx = some f →
    ∃ q : State, exec .frameEnd s = .next q.beginFrame
      ∧ q = { s with tx := none, tags := q.tags, buffers := q.buffers }
      ∧ (∀ u, f.reply ≠ some u → q.tag u = s.tag u)
      ∧ (∀ b, (q.buffer b).contents = (s.buffer b).contents)
      ∧ (f.reply = none → q.buffers = s.buffers)
      ∧ ∀ u r final released, f.reply = some u → s.tag u = .sending r final released →
          (released = false → r.session = s.session →
            q.tag u = .held r final ∧ q.buffers = s.buffers)
          ∧ (released = true ∨ r.session ≠ s.session → q.tag u = .free
            ∧ ∀ b, (q.buffer b).binding =
                if r.work.buffer? = some b then .free else (s.buffer b).binding)

/-- R141: nothing acts on a frame between its beginning and its end except hardware reset. -/
def Obligations.FrameOnLineIsFixed : Prop :=
  ∀ (c : Instr) (s t : State) (f : TxFrame), s.tx = some f → c ≠ .frameEnd →
    (∀ cause, c ≠ .resetBegin cause) → (∀ rate1 rate0, c ≠ .hardwareReset rate1 rate0) →
    exec c s = .next t → t.tx = some f

/-- R142, R159, R161: a frame that begins bears the session number current in the happening that begins
it. -/
def Obligations.FrameBearsCurrentSession : Prop :=
  ∀ (c : Instr) (s t : State) (f : TxFrame), exec c s = .next t → t.tx = some f → t.tx ≠ s.tx →
    ∃ content, f.line = onLine (framed content) ∧ content[1]? = some t.session

/-- R134 to R139, R140, R23: every step keeps the bounds of the transmit list, one REPLY for exactly the
DONE tags, one EVENT a drive, five NOTICEs, one STARTED, the level of STALL, and SENDING for exactly the
tag whose REPLY is on TXD; the last two while the part is not held in reset. -/
def Obligations.TransmitListIsKept : Prop :=
  ∀ s t : State, s.TransmitOk → step s = .next t → t.TransmitOk

/-- R76, R136: an event merges into its drive's waiting entry, or makes a new one at the tail. -/
def Obligations.EventMerges : Prop :=
  ∀ (s : State) (d : Drive) (ev : DriveEvent), s.list.countP (Entry.isEventOf d) ≤ 1 →
    EventAdded s.list (s.raiseEvent d ev).list d ev
    ∧ (s.raiseEvent d ev).stall = decide (4 ≤ noticeCount s.list)
    ∧ s.raiseEvent d ev =
        { s with list := (s.raiseEvent d ev).list, stall := (s.raiseEvent d ev).stall }

/-! ### Sessions -/

/-- R159, R160, R162: an OPEN taken with no session open, whatever its session and tag bytes, sets the
number to 1, lists OPENED in place of an announcement still waiting, and changes nothing else. -/
def Obligations.OpenWhileClosed : Prop :=
  ∀ (s : State) (session tag : Byte), s.resetHold = none → s.session = 0 →
    ∃ q : State, exec (.openSession session tag []) s = .next q.endHappening ∧ q.session = 1
      ∧ q.list = s.list.filter (fun e => !e.isStarted) ++ [.started .opened]
      ∧ q.stall = decide (4 ≤ noticeCount s.list)
      ∧ q = { s with session := q.session, list := q.list, stall := q.stall }

/-- R161, R26, R45, R90, R100, R123, R132, R145, R77, R80: an OPEN that finds a session open ends it, in the
stages of Table 11-1. -/
def Obligations.OpenEndsSession : Prop :=
  ∀ (s : State) (session tag : Byte), s.resetHold = none → s.session ≠ 0 →
    ∃ q : State, exec (.openSession session tag []) s = .next q.endHappening
      ∧ q.session = (if s.session = 255 then 1 else s.session + 1)
      ∧ (∀ t, q.tag t = if (s.tag t).isSending then s.tag t else .free)
      ∧ (∀ d, (q.drive d).queue = [] ∧ (q.drive d).record = (s.drive d).record
          ∧ (q.drive d).stats = (s.drive d).stats ∧ (q.drive d).sweep = (s.drive d).sweep
          ∧ (q.drive d).head =
              { (s.drive d).head with motion := motionLeft (s.drive d).head.motion }
          ∧ (q.drive d).spindle =
              if s.isTurning d = true ∧ q.isFree d = true
                  ∧ (s.drive d).spindle.runOnTimer = none then
                if (s.geometry d).runOn = 0 then .still .stopped .unknown
                else { (s.drive d).spindle with runOnTimer := some (1000 * (s.geometry d).runOn) }
              else (s.drive d).spindle)
      ∧ q.pass = (match s.pass with
          | none => none
          | some p => some { p with
              owner := .detached
              body := match p.body with
                | .formatting fill current completed _ => .formatting fill current completed true
                | body => body })
      ∧ (∀ b, (q.buffer b).contents = (s.buffer b).contents
          ∧ (q.buffer b).binding = match (s.buffer b).binding with
            | .tag t =>
              if (s.pass.any fun p => p.buffer == some b) = true then .detachedPass
              else if (s.tag t).isSending then .tag t else .free
            | x => x)
      ∧ q.bus = { s.bus with reservation := none }
      ∧ q.list = s.list.filter Entry.isEvent ++ [.started .opened] ∧ q.stall = false
      ∧ q = { s with
          session := q.session, tags := q.tags, units := q.units, pass := q.pass,
          buffers := q.buffers, bus := q.bus, list := q.list, stall := q.stall }

/-! ### Requests -/

/-- R5 to R12, Table 1-3: the first check that fails, in the order of Table 1-3, names the reason, and the
refusal lists a notice with the kind and tag received and changes nothing else. A frame of an unknown kind
fails check 1 whatever its other fields, and an OPEN is tested for its body length alone (R160). -/
def Obligations.FirstFailingCheckRefuses : Prop :=
  (∀ (s : State) (lv : Levels) (f : Frame) (reason : Reason), s.resetHold = none → f.kind ≠ 0x01 →
    s.firstFailure f = some reason →
    ∃ q : State, exec (commandOf lv f) s = .next q.endHappening
      ∧ (s.facing (commandOf lv f)).Notices q reason f.kind f.tag)
  ∧ (∀ (s : State) (kind session tag : Byte) (body : List Byte), s.resetHold = none →
    knownKinds.contains kind = false →
    ∃ q : State, exec (.unknownKind kind session tag body) s = .next q.endHappening
      ∧ s.Notices q .unknownKind kind tag)
  ∧ ∀ (s : State) (session tag : Byte) (body : List Byte), s.resetHold = none → body ≠ [] →
    ∃ q : State, exec (.openSession session tag body) s = .next q.endHappening
      ∧ s.Notices q .badLength 0x01 tag

/-- R13, R14, R28, R128: a READ that passes its checks binds the lowest-numbered free buffer, whose
contents stay, and joins the tail of its drive's queue; the acceptance is then a happening at the drive. -/
def Obligations.ReadJoinsQueue : Prop :=
  ∀ (s : State) (lv : Levels) (session tag : Byte) (body : List Byte), s.resetHold = none →
    let f : Frame := ⟨0x10, session, tag, body⟩
    let t := f.tagNo
    let d := f.driveNo
    s.firstFailure f = none →
    ∃ (b : BufNo) (q : State),
      exec (.read lv session tag body) s = .next ((q.acceptedAt d t).endHappening)
      ∧ (s.withLevels lv).Joins q d t ⟨.read f.sectorAddr b .start, d, s.session, s.nextStamp, 0⟩
      ∧ s.lowestFor t b ∧ q.buffer b = ⟨.tag t, (s.buffer b).contents⟩
      ∧ s.BuffersReleased q t (some b)

/-- R13, R14, R28, R128, R129: a WRITE that passes its checks binds the lowest-numbered free buffer, which
takes the 256 data bytes of the frame, and joins the tail of its drive's queue. -/
def Obligations.WriteJoinsQueue : Prop :=
  ∀ (s : State) (lv : Levels) (session tag : Byte) (body : List Byte), s.resetHold = none →
    let f : Frame := ⟨0x11, session, tag, body⟩
    let t := f.tagNo
    let d := f.driveNo
    s.firstFailure f = none →
    ∃ (b : BufNo) (q : State),
      exec (.write lv session tag body) s = .next ((q.acceptedAt d t).endHappening)
      ∧ (s.withLevels lv).Joins q d t
          ⟨.write f.sectorAddr (f.byte 4 == 0x01) b .start false, d, s.session, s.nextStamp, 0⟩
      ∧ s.lowestFor t b ∧ (q.buffer b).binding = .tag t
      ∧ (q.buffer b).contents.val = body.drop 5 ∧ s.BuffersReleased q t (some b)

/-- R13, R14, R28: VERIFY, FORMAT, SEEK and RECAL that pass their checks join the tail of their drive's
queue and bind no buffer. -/
def Obligations.OtherWorkJoinsQueue : Prop :=
  ∀ (s : State) (lv : Levels) (session tag : Byte) (body : List Byte) (kind : Byte) (c : Instr) (w : Work),
    s.resetHold = none →
    let f : Frame := ⟨kind, session, tag, body⟩
    c = .verify lv session tag body ∧ kind = 0x12 ∧ w = .verify f.sectorAddr .start
      ∨ c = .format lv session tag body ∧ kind = 0x13
        ∧ w = .format (f.byte 1).toNat (f.byte 2).toNat (f.byte 3)
      ∨ c = .seek lv session tag body ∧ kind = 0x14 ∧ w = .seek (f.byte 1).toNat
      ∨ c = .recal lv session tag body ∧ kind = 0x15 ∧ w = .recal →
    s.firstFailure f = none →
    ∃ q : State, exec c s = .next ((q.acceptedAt f.driveNo f.tagNo).endHappening)
      ∧ (s.withLevels lv).Joins q f.driveNo f.tagNo ⟨w, f.driveNo, s.session, s.nextStamp, 0⟩
      ∧ s.BuffersReleased q f.tagNo none

/-- R28, R32, R63, R78, Table 2-1: what follows an acceptance, by motor condition, for a drive whose ACTIVE
request is not in ROTATE; `Obligations.NewcomerOvertakes` has the ROTATE row. -/
def Obligations.AcceptanceAtTheDrive : Prop :=
  ∀ (s : State) (d : Drive) (t : TagNo),
    ((s.drive d).spindle.condition = .stopped → s.acceptedAt d t = s.setSpindle d
      { motor := true, condition := .starting, media := .unknown, position := .unknown, period := none,
        revCount := none, measure := some ⟨false, none, 0⟩,
        spinUpTimer := some (1000 * (s.geometry d).spinUpLimit), watchdog := none, runOnTimer := none })
    ∧ ((s.drive d).spindle.condition = .starting → s.acceptedAt d t = s)
    ∧ ((s.drive d).spindle.condition = .turning → s.isFree d = true → s.acceptedAt d t =
        (s.setSpindle d { (s.drive d).spindle with runOnTimer := none }).afterFree d)
    ∧ ((s.drive d).spindle.condition = .turning → s.isFree d = false →
        (∀ u r p m, s.activeTag d = some u → s.tag u ≠ .active r p .rotate m) → s.acceptedAt d t = s)

/-- R15, R50 to R52, R56: a DEFINE that passes its checks replaces the record, stops the spindle, loses the
head, turns the sweep inward, clears the counters and completes at once; the other drive and the bus stay. -/
def Obligations.DefineReplacesRecord : Prop :=
  ∀ (s : State) (session tag : Byte) (body : List Byte), s.resetHold = none →
    let f : Frame := ⟨0x02, session, tag, body⟩
    let t := f.tagNo
    let d := f.driveNo
    let v := fun i => (f.byte i).toNat
    s.firstFailure f = none →
    ∃ q : State, exec (.define session tag body) s = .next q.endHappening
      ∧ q.drive d =
          { record := some ⟨v 1, v 2, v 3, v 4, v 5, v 6, v 7, v 8, v 9, v 10⟩, stats := ⟨0, 0, 0, 0, 0⟩,
            queue := [], sweep := .inward, spindle := .still .stopped .unknown, head := .lost }
      ∧ q.drive d.other = s.drive d.other
      ∧ q.tag t = .done ⟨.define, d, s.session, s.nextStamp, 0⟩ ⟨.ok, none⟩
      ∧ (∀ u, u ≠ t → q.tag u = s.tag u)
      ∧ q.list = s.list ++ [.reply t] ∧ q.stall = decide (4 ≤ noticeCount s.list)
      ∧ s.BuffersReleased q t none
      ∧ q = { s with
          units := q.units, tags := q.tags, buffers := q.buffers, list := q.list, stall := q.stall,
          nextStamp := s.nextStamp + 1 }

/-- R15, R56 to R59, Tables 3-5 and 3-6: a QUERY that passes its checks stores the snapshot of its drive as
its acceptance finds it, then clears the counters if the CLEAR flag is set, and completes at once. -/
def Obligations.QueryStoresSnapshot : Prop :=
  ∀ (s : State) (lv : Levels) (session tag : Byte) (body : List Byte), s.resetHold = none →
    let f : Frame := ⟨0x03, session, tag, body⟩
    let t := f.tagNo
    let d := f.driveNo
    s.firstFailure f = none →
    ∃ q : State, exec (.query lv session tag body) s = .next q.endHappening
      ∧ q.tag t = .done
          ⟨.query (f.byte 1 == 0x01)
            { drive := d, condition := (s.drive d).spindle.condition, media := (s.drive d).spindle.media,
              headTrack := (s.drive d).head.running,
              moving := match (s.drive d).head.state with
                | .unknown => false | .onTrack _ => false | .moving _ => true | .settling _ => true
              position := (s.drive d).spindle.position, period := (s.drive d).spindle.period,
              writeProtect := lv.wprot.get d, queueLength := (s.drive d).queue.length,
              activeTag := s.activeTag d, reservation := s.bus.reservation, stats := (s.drive d).stats },
            d, s.session, s.nextStamp, 0⟩ ⟨.ok, none⟩
      ∧ (∀ u, u ≠ t → q.tag u = s.tag u)
      ∧ q.drive d = { s.drive d with
          stats := if f.byte 1 = 0x01 then ⟨0, 0, 0, 0, 0⟩ else (s.drive d).stats }
      ∧ q.drive d.other = s.drive d.other
      ∧ q.list = s.list ++ [.reply t] ∧ q.stall = decide (4 ≤ noticeCount s.list)
      ∧ s.BuffersReleased q t none
      ∧ q = { s with
          levels := lv, units := q.units, tags := q.tags, buffers := q.buffers, list := q.list,
          stall := q.stall, nextStamp := s.nextStamp + 1 }

/-- R16, R171, Table 13-1: a request that reaches a final status is DONE with that status and, for SEEK and
RECAL, the track reached by the head state of its drive at that moment, and its REPLY is listed. From then
on no command changes the record or the contents of its buffer until the tag is FREE; a HELD tag may also
pass through FREE to a new request in one happening (R13). -/
def Obligations.TrackReachedIsFixed : Prop :=
  (∀ (s : State) (t : TagNo) (r : Request) (p : Nat) (st : Status),
    (s.tag t = .queued r p ∨ ∃ ph marked, s.tag t = .active r p ph marked) →
    let landed := fun (target : Nat) =>
      if st = .ok then some target
      else if st = .seekFail then none
      else match (s.drive r.drive).head.state with
        | .onTrack k => some k
        | .settling k => some k
        | .moving _ => none
        | .unknown => none
    ∃ q : State, s.finishTag t st = q
      ∧ q.tag t = .done r ⟨st, match r.work with
          | .seek target => landed target
          | .recal => landed 0
          | _ => none⟩
      ∧ (∀ u, u ≠ t → q.tag u = s.tag u)
      ∧ q.list = s.list ++ [.reply t] ∧ q.stall = decide (4 ≤ noticeCount s.list)
      ∧ q = { s with tags := q.tags, list := q.list, stall := q.stall })
  ∧ ∀ (c : Instr) (s t : State) (u : TagNo) (r : Request) (final : Final), s.Coherent →
    exec c s = .next t → (s.tag u).final? = some (r, final) →
    t.tag u = .free
    ∨ (s.tag u = .held r final ∧ ∃ new, (t.tag u).request? = some new ∧ new.stamp = s.nextStamp)
    ∨ ((t.tag u).final? = some (r, final)
      ∧ ∀ b, r.work.buffer? = some b → (t.buffer b).contents = (s.buffer b).contents)

/-- R18 to R21, R29, R31, R90, R100, R121, Table 1-7: an ABORT that its target's state does not refuse. That
a motion withdrawn in stage WAITING leaves the drive free for a decision at once is deduced (log entry
13). -/
def Obligations.AbortByTargetState : Prop :=
  ∀ (s : State) (lv : Levels) (session tag : Byte), s.resetHold = none →
    let f : Frame := ⟨0x20, session, tag, []⟩
    let t := f.tagNo
    s.firstFailure f = none →
    (∀ r p, s.tag t = .queued r p →
      ∃ q : State, exec (.abort lv session tag []) s = .next ((q.runOnIfDue r.drive).endHappening)
        ∧ q.tags = (s.finishTag t .aborted).tags ∧ q.list = s.list ++ [.reply t]
        ∧ q.drive r.drive = { s.drive r.drive with
            queue := (s.drive r.drive).queue.filter fun u => u != t }
        ∧ q.drive r.drive.other = s.drive r.drive.other
        ∧ q = { s with
            levels := lv, tags := q.tags, list := q.list, stall := q.stall, units := q.units })
    ∧ (∀ r p ph m, s.tag t = .active r p ph m → ph ≠ .pass →
      ∃ q : State, exec (.abort lv session tag []) s = .next ((q.afterFree r.drive).endHappening)
        ∧ q.tags = (s.finishTag t .aborted).tags ∧ q.list = s.list ++ [.reply t]
        ∧ q.drive r.drive = (if ph = .rotate then s.drive r.drive else { s.drive r.drive with
            head := { (s.drive r.drive).head with
              motion := motionLeft (s.drive r.drive).head.motion } })
        ∧ q.drive r.drive.other = s.drive r.drive.other
        ∧ q.bus.reservation = (if ph = .rotate ∧ s.bus.reservation = some r.drive then none
            else s.bus.reservation)
        ∧ q = { s with
            levels := lv, tags := q.tags, list := q.list, stall := q.stall, units := q.units,
            bus := { s.bus with reservation := q.bus.reservation } })
    ∧ (∀ r p, s.tag t = .active r p .pass false →
      ∃ q : State, exec (.abort lv session tag []) s = .next q.endHappening
        ∧ q.tag t = .active r p .pass true ∧ (∀ u, u ≠ t → q.tag u = s.tag u)
        ∧ q = { s with levels := lv, tags := q.tags, pass := q.pass }
        ∧ (∀ x fill current completed stop, s.pass = some x → x.owner = .tag t →
            x.body = .formatting fill current completed stop →
            q.pass = some { x with body := .formatting fill current completed true })
        ∧ ((∀ x fill current completed stop, s.pass = some x → x.owner = .tag t →
            x.body ≠ .formatting fill current completed stop) → q.pass = s.pass))

/-- R24: a RELEASE that passes checks 1 to 5, by the state of its target. -/
def Obligations.ReleaseByTargetState : Prop :=
  ∀ (s : State) (session tag : Byte), s.resetHold = none → s.session ≠ 0 → session = s.session →
    tag.toNat < 16 →
    let t : TagNo := Fin.ofNat 16 tag.toNat
    ∃ q : State, exec (.release session tag []) s = .next q.endHappening
      ∧ (s.tag t = .free → s.Notices q .noSuchTag 0x21 tag)
      ∧ (∀ r p, s.tag t = .queued r p → s.Notices q .notDone 0x21 tag)
      ∧ (∀ r p ph m, s.tag t = .active r p ph m → s.Notices q .notDone 0x21 tag)
      ∧ (∀ r final, s.tag t = .sending r final true → s.Notices q .alreadyPending 0x21 tag)
      ∧ (∀ r final, s.tag t = .sending r final false →
          q = s.setTag t (.sending r final true))
      ∧ (∀ r final, s.tag t = .done r final ∨ s.tag t = .held r final →
          q.tag t = .free ∧ (∀ u, u ≠ t → q.tag u = s.tag u)
          ∧ (∀ b, q.buffer b = if r.work.buffer? = some b then ⟨.free, (s.buffer b).contents⟩
              else s.buffer b)
          ∧ q = { s with tags := q.tags, buffers := q.buffers, list := q.list, stall := q.stall })
      ∧ (∀ r final, s.tag t = .done r final →
          q.list = s.list.filter (fun e => e != .reply t) ∧ q.stall = decide (4 ≤ noticeCount q.list))
      ∧ (∀ r final, s.tag t = .held r final → q.list = s.list ∧ q.stall = s.stall)

/-- R25: a RESEND that passes checks 1 to 5, by the state of its target. -/
def Obligations.ResendByTargetState : Prop :=
  ∀ (s : State) (session tag : Byte), s.resetHold = none → s.session ≠ 0 → session = s.session →
    tag.toNat < 16 →
    let t : TagNo := Fin.ofNat 16 tag.toNat
    ∃ q : State, exec (.resend session tag []) s = .next q.endHappening
      ∧ (s.tag t = .free → s.Notices q .noSuchTag 0x22 tag)
      ∧ (∀ r p, s.tag t = .queued r p → s.Notices q .notDone 0x22 tag)
      ∧ (∀ r p ph m, s.tag t = .active r p ph m → s.Notices q .notDone 0x22 tag)
      ∧ (∀ r final, s.tag t = .done r final → s.Notices q .alreadyPending 0x22 tag)
      ∧ (∀ r final m, s.tag t = .sending r final m → s.Notices q .alreadyPending 0x22 tag)
      ∧ (∀ r final, s.tag t = .held r final →
          q.tag t = .done r final ∧ (∀ u, u ≠ t → q.tag u = s.tag u)
          ∧ q.list = s.list ++ [.reply t] ∧ q.stall = decide (4 ≤ noticeCount s.list)
          ∧ q = { s with tags := q.tags, list := q.list, stall := q.stall })

/-! ### Scheduling -/

/-- R36, Table 2-3: the wait is the number of pulses taken from the current position up to and including
the starting pulse, and lies from 1 to S + 1. -/
def Obligations.WaitCountsPulses : Prop :=
  ∀ (sectors : Nat) (pos : Position) (start : Pulse), 0 < sectors → pos.onTrack sectors = true →
    start.position.onTrack sectors = true →
    1 ≤ waitFor pos sectors start ∧ waitFor pos sectors start ≤ sectors + 1
      ∧ positionAfter sectors pos (waitFor pos sectors start) = start.position
      ∧ ∀ n, 1 ≤ n → n < waitFor pos sectors start → positionAfter sectors pos n ≠ start.position

/-- R33 to R38, R41, Table 2-2: the member a decision chooses from a queue that is not empty, step by step,
and the sweep direction it leaves. -/
def Obligations.DecisionFollowsSteps : Prop :=
  ∀ (s : State) (d : Drive), (s.drive d).queue ≠ [] →
    ∃ c, s.choose d = some c ∧
      let queue := (s.drive d).queue
      let limit := (s.geometry d).ageLimit
      let sweep := (s.drive d).sweep
      let work := fun (p : Work → Bool) (t : TagNo) => (s.work? t).any p
      if limit ≠ 0 ∧ ∃ t ∈ queue, (s.tag t).passed = limit then
        BestOf (fun t => (s.tag t).passed == limit) (fun _ => 0) queue c.tag ∧ c.sweep = sweep
      else match (s.drive d).head.state with
        | .onTrack k =>
          if ∃ t ∈ queue, work (Work.isSeekTo k) t = true then
            BestOf (work (Work.isSeekTo k)) (fun _ => 0) queue c.tag ∧ c.sweep = sweep
          else if ∃ t ∈ queue, work (Work.transfersOn k) t = true then
            BestOf (work (Work.transfersOn k)) (fun t => ((s.work? t).map (s.waitOf d)).getD 0) queue c.tag
              ∧ c.sweep = sweep
          else if ∃ t ∈ queue, s.trackOf t = k then
            BestOf (fun t => s.trackOf t == k) (fun _ => 0) queue c.tag ∧ c.sweep = sweep
          else if ∃ t ∈ queue, sweep.beyond k (s.trackOf t) = true then
            BestOf (fun t => sweep.beyond k (s.trackOf t)) (fun t => apart (s.trackOf t) k) queue c.tag
              ∧ c.sweep = sweep
          else
            BestOf (fun _ => true) (fun t => apart (s.trackOf t) k) queue c.tag ∧ c.sweep = sweep.reverse
        | _ => BestOf (fun _ => true) (fun _ => 0) queue c.tag ∧ c.sweep = sweep

/-- R39, R40, R35, R83, Table 2-4: a decision takes the chosen tag out of the queue and starts it by its kind
and the head state, and raises the passed counts of the members that remain. -/
def Obligations.DecisionStartsAndAges : Prop :=
  ∀ (s : State) (d : Drive) (c : Choice) (r : Request) (p : Nat), s.QueueOk → s.choose d = some c →
    s.tag c.tag = .queued r p →
    let t := s.decide1 d
    let starts := fun (kind : MotionKind) (target : Nat) =>
      t.tag c.tag = .active r p .position false
        ∧ (t.drive d).head =
            { (s.drive d).head with motion := some ⟨kind, target, .tag c.tag, .waiting, 0⟩ }
    (t.drive d).queue = (s.drive d).queue.filter (fun u => u != c.tag)
    ∧ (t.drive d).sweep = c.sweep
    ∧ (∀ u x n, u ≠ c.tag → s.tag u = .queued x n →
        t.tag u = .queued x (if x.drive = d ∧ n ≠ (s.geometry d).ageLimit then n + 1 else n))
    ∧ (∀ u, u ≠ c.tag → (∀ x n, s.tag u ≠ .queued x n) → t.tag u = s.tag u)
    ∧ match r.work, (s.drive d).head.state with
      | .recal, _ => starts .recal 0
      | .seek k, .onTrack h =>
        if h = k then
          t.tag c.tag = .done r ⟨.ok, some k⟩ ∧ t.list = s.list ++ [.reply c.tag]
        else starts .seek k
      | w, .onTrack h =>
        if h = w.track then
          t.tag c.tag = .active r p .rotate false ∧ (t.drive d).head = (s.drive d).head
        else starts .seek w.track
      | w, _ => starts .recalThenSeek w.track

/-- R42, R43, R100: the newcomer overtakes the ACTIVE request in ROTATE exactly when the six conditions
hold; otherwise nothing changes. -/
def Obligations.NewcomerOvertakes : Prop :=
  ∀ (s : State) (d : Drive) (newTag actTag : TagNo) (new act : Request) (n passed : Nat) (m : Bool),
    (s.drive d).spindle.condition = .turning → s.activeTag d = some actTag →
    s.tag newTag = .queued new n → s.tag actTag = .active act passed .rotate m →
    (¬ s.MayOvertake d newTag new act passed → s.acceptedAt d newTag = s)
    ∧ (s.MayOvertake d newTag new act passed →
      ∃ q : State, s.acceptedAt d newTag = q
        ∧ q.tag newTag = .active new 0 .rotate false ∧ q.tag actTag = .queued act (passed + 1)
        ∧ (∀ u, u ≠ newTag → u ≠ actTag → q.tag u = s.tag u)
        ∧ (∃ older newer,
            (s.drive d).queue.filter (fun u => u != newTag) = older ++ newer
            ∧ q.drive d = { s.drive d with queue := older ++ actTag :: newer }
            ∧ (∀ u ∈ older, s.stampOf u ≤ act.stamp)
            ∧ ∀ u ∈ newer.head?, act.stamp < s.stampOf u)
        ∧ q.drive d.other = s.drive d.other
        ∧ q.bus.reservation = (if s.bus.reservation = some d then none else s.bus.reservation)
        ∧ q = { s with
            tags := q.tags, units := q.units,
            bus := { s.bus with reservation := q.bus.reservation } })

/-- R31, R77, R80: after what may have freed a drive, a drive that is free and TURNING has an empty queue
and its run-on timer running. -/
def Obligations.NoWorkLeftOnFreeDrive : Prop :=
  ∀ (s : State) (d : Drive), (s.afterFree d).isTurning d = true → (s.afterFree d).isFree d = true →
    ((s.afterFree d).drive d).queue = [] ∧ ((s.afterFree d).drive d).spindle.runOnTimer.isSome = true

/-- R1, R27, R30, R40: every step keeps the queues in stamp order with exactly the QUEUED tags of their
drives, at most one ACTIVE request a drive, and every passed count within the age limit. -/
def Obligations.QueuesAreKept : Prop :=
  ∀ s t : State, s.QueueOk → step s = .next t → t.QueueOk

/-! ### Spindles and rotation -/

/-- R62, R64, R65, R66: a pulse of a drive that is UNDEFINED or STOPPED changes nothing; in STARTING the
index pulses measure the spin, a stable revolution of S sector pulses ends it TURNING, and one of another
count ends it WRONG_MEDIA. -/
def Obligations.SpinUpMeasures : Prop :=
  ∀ (s : State) (lv : Levels) (d : Drive) (interval : Word16), s.resetHold = none →
    let x := (s.drive d).spindle
    let g := s.geometry d
    let t := s.withLevels lv
    let measured := fun (m : Measure) =>
      Host.Outcome.next (t.setSpindle d { x with measure := some m })
    (x.condition = .undefined ∨ x.condition = .stopped →
      exec (.indexPulse lv d interval) s = .next t ∧ exec (.sectorPulse lv d) s = .next t)
    ∧ ∀ m, x.condition = .starting → x.measure = some m →
      exec (.sectorPulse lv d) s
        = measured { m with sectors := if m.sectors < 255 then m.sectors + 1 else m.sectors }
      ∧ (m.indexSeen = false → exec (.indexPulse lv d interval) s = measured ⟨true, none, 0⟩)
      ∧ (m.indexSeen = true → m.earlier = none →
        exec (.indexPulse lv d interval) s = measured ⟨true, some interval, 0⟩)
      ∧ ∀ e, m.indexSeen = true → m.earlier = some e →
        let close := 32 * ((interval.toNat : Int) - e.toNat).natAbs ≤ e.toNat
        (¬ close → exec (.indexPulse lv d interval) s = measured ⟨true, some interval, 0⟩)
        ∧ (close → m.sectors ≠ g.sectors →
          exec (.indexPulse lv d interval) s
            = .next (t.failDrive d .wrongMedia .wrongMedia .present))
        ∧ (close → m.sectors = g.sectors →
          exec (.indexPulse lv d interval) s = .next ((t.setSpindle d
            { motor := true, condition := .turning, media := .present, position := .index,
              period := some interval, revCount := some 0, measure := none, spinUpTimer := none,
              watchdog := some (2 * interval.toNat), runOnTimer := none }).afterFree d).endHappening)

/-- R69, R70, R72: a pulse of a TURNING drive moves its position and is handed on to the pass under way,
the request in ROTATE and the Scheduler, in that order; one that the record does not expect fails the
drive. -/
def Obligations.TurningPulses : Prop :=
  ∀ (s : State) (lv : Levels) (d : Drive) (interval : Word16), s.resetHold = none →
    (s.drive d).spindle.condition = .turning →
    let x := (s.drive d).spindle
    let sectors := (s.geometry d).sectors
    let t := s.withLevels lv
    let wrong := Host.Outcome.next (t.failDrive d .wrongMedia .wrongMedia .present)
    let handed := fun (y : Spindle) (p : Pulse) => Host.Outcome.next
      ((((t.setSpindle d y).passStage d p).needStage d p).afterFree d).endHappening
    (∀ period, x.revCount = some sectors → x.period = some period →
      exec (.indexPulse lv d interval) s = handed
        { x with position := .index, revCount := some 0, watchdog := some (2 * period.toNat) } .index)
    ∧ (x.revCount ≠ some sectors → exec (.indexPulse lv d interval) s = wrong)
    ∧ (∀ k, x.position = .index → x.revCount = some k →
      exec (.sectorPulse lv d) s
        = handed { x with position := .sector 0, revCount := some (k + 1) } (.sector 0))
    ∧ (∀ n k, x.position = .sector n → n + 1 < sectors → x.revCount = some k →
      exec (.sectorPulse lv d) s
        = handed { x with position := .sector (n + 1), revCount := some (k + 1) } (.sector (n + 1)))
    ∧ ∀ n, x.position = .sector n → sectors ≤ n + 1 → exec (.sectorPulse lv d) s = wrong

/-- R67, R71, R79: what the expiry of each timer of a spindle brings. A timer that is not running does not
expire (log entry 2). -/
def Obligations.SpindleTimersExpire : Prop :=
  ∀ (s : State) (lv : Levels) (d : Drive), s.resetHold = none →
    let x := (s.drive d).spindle
    let t := s.withLevels lv
    (∀ n m, x.spinUpTimer = some n → x.measure = some m →
      exec (.spinUpTimerExpiry lv d) s = .next (
        if m.indexSeen = true then t.failDrive d .spinFail .notReady .unknown
        else t.failDrive d .noMedia .notReady .absent))
    ∧ (∀ n, x.watchdog = some n →
      exec (.indexWatchdogExpiry lv d) s = .next (t.failDrive d .mediaLost .mediaLost .absent))
    ∧ (∀ n, x.runOnTimer = some n →
      exec (.runOnTimerExpiry d) s = .next (s.setSpindle d
        { motor := false, condition := .stopped, media := .unknown, position := .unknown, period := none,
          revCount := none, measure := none, spinUpTimer := none, watchdog := none,
          runOnTimer := none }))
    ∧ (x.spinUpTimer = none → exec (.spinUpTimerExpiry lv d) s = .next t)
    ∧ (x.watchdog = none → exec (.indexWatchdogExpiry lv d) s = .next t)
    ∧ (x.runOnTimer = none → exec (.runOnTimerExpiry d) s = .next s)

/-- R73 to R76, R17, R22, R90, R122, R133, R135: a drive failure raises its event, cuts off a pass on the
drive, detaches or withdraws its motion, clears a reservation naming the drive, ends its ACTIVE request and
then its queue in order, and stops the spindle. -/
def Obligations.DriveFailureEffects : Prop :=
  ∀ (s : State) (d : Drive) (ev : DriveEvent) (st : Status) (media : Media), s.QueueOk →
    s.list.countP (Entry.isEventOf d) ≤ 1 →
    ∃ q : State, s.failDrive d ev st media = q.endHappening
      ∧ q.drive d = { s.drive d with
          queue := []
          spindle := {
            motor := false, condition := .stopped, media := media, position := .unknown, period := none,
            revCount := none, measure := none, spinUpTimer := none, watchdog := none, runOnTimer := none }
          head := { (s.drive d).head with motion := motionLeft (s.drive d).head.motion } }
      ∧ q.drive d.other = s.drive d.other
      ∧ (∀ t r p ph marked, s.tag t = .active r p ph marked → r.drive = d →
          let final := if marked = true then .aborted else st
          q.tag t = .done r ⟨final, reachedAt r.work final (s.drive d).head.state⟩)
      ∧ (∀ t r p, s.tag t = .queued r p → r.drive = d →
          q.tag t = .done r ⟨st, reachedAt r.work st (s.drive d).head.state⟩)
      ∧ (∀ t, (s.tag t).queuedOn d = false → (s.tag t).activeOn d = false → q.tag t = s.tag t)
      ∧ (∃ l, EventAdded s.list l d ev
          ∧ q.list = l ++ ((s.activeTag d).toList ++ (s.drive d).queue).map .reply)
      ∧ q.stall = decide (4 ≤ noticeCount q.list)
      ∧ (if s.passOn d = true then
          q.pass = none ∧ q.port = s.port.idle ∧ q.bus.holder = none
        else q.pass = s.pass ∧ q.port = s.port ∧ q.bus.holder = s.bus.holder)
      ∧ q.bus.reservation = (if s.bus.reservation = some d then none else s.bus.reservation)
      ∧ q.bus.alternation = s.bus.alternation
      ∧ (∀ b, (q.buffer b).contents = (s.buffer b).contents
          ∧ (q.buffer b).binding =
            if (s.pass.any fun p => p.drive == d && p.owner == .detached && p.buffer == some b) = true
            then .free else (s.buffer b).binding)
      ∧ q = { s with
          tags := q.tags, units := q.units, list := q.list, stall := q.stall, pass := q.pass,
          port := q.port, bus := q.bus, buffers := q.buffers }

/-- R60, R73, R79, R92 and the opening of Chapter 4: a pulse or a timer of one drive leaves the other
drive's record, spindle, queue and sweep direction as they are. -/
def Obligations.OtherSpindleUntouched : Prop :=
  ∀ (s t : State) (lv : Levels) (d : Drive) (interval : Word16) (c : Instr),
    c ∈ [.indexPulse lv d interval, .sectorPulse lv d, .spinUpTimerExpiry lv d,
      .indexWatchdogExpiry lv d, .runOnTimerExpiry d, .stepTimerExpiry lv d,
      .settleTimerExpiry lv d] → exec c s = .next t →
    (t.drive d.other).record = (s.drive d.other).record
    ∧ (t.drive d.other).spindle = (s.drive d.other).spindle
    ∧ (t.drive d.other).queue = (s.drive d.other).queue
    ∧ (t.drive d.other).sweep = (s.drive d.other).sweep

/-- R47, R48, R53, R60, R69, R70: every step keeps each drive's record within its ranges, its spindle
fields as its condition has them, the revolution count at the sector pulses taken, and the counters at most
65535. -/
def Obligations.DrivesAreKept : Prop :=
  ∀ s t : State, s.DrivesOk → step s = .next t → t.DrivesOk

/-! ### Head motions and the drive bus -/

/-- R85, R87: the expiry of the step timer in a seek issues one more pulse toward the target, or ends the
stepping at the target. -/
def Obligations.SeekSteps : Prop :=
  ∀ (s : State) (lv : Levels) (d : Drive) (m : Motion) (n p : Nat), s.resetHold = none →
    (s.drive d).head.stepTimer = some n → (s.drive d).head.motion = some m → m.stage = .stepping →
    (s.drive d).head.running = some p →
    let t := s.withLevels lv
    (p < m.target → exec (.stepTimerExpiry lv d) s = .next (t.stepped d s.port.dir
      { (s.drive d).head with running := some (p + 1) }).endHappening)
    ∧ (m.target < p → exec (.stepTimerExpiry lv d) s = .next (t.stepped d s.port.dir
      { (s.drive d).head with running := some (p - 1) }).endHappening)
    ∧ (p = m.target → ∃ q : State,
      exec (.stepTimerExpiry lv d) s = .next q.endHappening ∧ t.Settles q d m)

/-- R86, R87, R88: the expiry of the step timer in the recalibration part of a motion samples TRK0n, and
finds track 0, steps outward again, or ends in HEAD_FAULT after T + 8 steps. -/
def Obligations.RecalibrationChecks : Prop :=
  ∀ (s : State) (lv : Levels) (d : Drive) (m : Motion) (n : Nat), s.resetHold = none →
    (s.drive d).head.stepTimer = some n → (s.drive d).head.motion = some m → m.stage = .stepping →
    (s.drive d).head.running = none → s.list.countP (Entry.isEventOf d) ≤ 1 →
    let t := s.withLevels lv
    ∃ q : State, exec (.stepTimerExpiry lv d) s = .next ((q.afterFree d).endHappening)
      ∧ (lv.trk0.get d = true → m.target = 0 → t.Settles q d m)
      ∧ (lv.trk0.get d = true → 0 < m.target →
          q = t.stepped d .inward { (s.drive d).head with running := some 1 })
      ∧ (lv.trk0.get d = false → m.stepCount < (s.geometry d).tracks + 8 →
          q = t.stepped d s.port.dir
            { (s.drive d).head with motion := some { m with stepCount := m.stepCount + 1 } })
      ∧ (lv.trk0.get d = false → (s.geometry d).tracks + 8 ≤ m.stepCount → t.HeadFails q d m)

/-- R89, Table 5-2, R171: the end of a settle leaves the head AT the target with no motion, and acts on the
owner by its kind. -/
def Obligations.SettleEnds : Prop :=
  ∀ (s : State) (lv : Levels) (d : Drive) (m : Motion) (n : Nat), s.resetHold = none →
    (s.drive d).head.settleTimer = some n → (s.drive d).head.motion = some m → m.stage = .settling →
    ∃ q : State, exec (.settleTimerExpiry lv d) s = .next ((q.afterFree d).endHappening)
      ∧ q.drive d = { s.drive d with head := { (s.drive d).head with
          state := .onTrack m.target, motion := none, settleTimer := none } }
      ∧ q.drive d.other = s.drive d.other
      ∧ (∀ t, m.owner ≠ .tag t → q.tag t = s.tag t)
      ∧ (m.owner = .detached → q.list = s.list ∧ q.stall = s.stall)
      ∧ (∀ t r p ph k, m.owner = .tag t → s.tag t = .active r p ph k →
          (r.work.startingPulse.isSome = true →
            q.tag t = .active r p .rotate k ∧ q.list = s.list ∧ q.stall = s.stall)
          ∧ (∀ target, r.work = .seek target ∨ r.work = .recal ∧ target = 0 →
            q.tag t = .done r ⟨.ok, some target⟩ ∧ q.list = s.list ++ [.reply t]))
      ∧ q = { s with
          levels := lv, units := q.units, tags := q.tags, list := q.list, stall := q.stall }

/-- R84, R85, R86, R94 to R96: the end of a happening grants a free bus to a waiting STEP need that the
reservation does not bar, of two the one the alternation memory does not name, and what the grant does.
That the grants stand at the end of the happening is deduced (log entry 11). -/
def Obligations.StepNeedsAreGranted : Prop :=
  ∀ s : State, s.endHappening = s.grantOne.grantOne.beginFrame
    ∧ (s.bus.holder ≠ none → s.grantOne = s)
    ∧ ((∀ d, ¬ s.CanStep d) → s.grantOne = s)
    ∧ ∀ d, s.bus.holder = none → s.CanStep d →
      (s.CanStep d.other → s.bus.alternation ≠ some d ∧ (s.bus.alternation = none → d = .d0)) →
      s.grantOne = s.grantStep d
      ∧ ∀ m, (s.drive d).head.motion = some m →
        let moving : Head := { (s.drive d).head with
          state := .moving m.target, motion := some { m with stage := .stepping } }
        let recal := s.stepGranted d true
        (∀ p, m.kind = .seek → (s.drive d).head.running = some p → p < m.target →
          s.grantStep d = (s.stepGranted d false).stepped d .inward
            { moving with running := some (p + 1) })
        ∧ (∀ p, m.kind = .seek → (s.drive d).head.running = some p → m.target < p →
          s.grantStep d = (s.stepGranted d false).stepped d .outward
            { moving with running := some (p - 1) })
        ∧ (m.kind ≠ .seek → s.levels.trk0.get d = false →
          m.stepCount < (s.geometry d).tracks + 8 →
          s.grantStep d = recal.stepped d .outward { moving with
            running := none, motion := some { m with stage := .stepping, stepCount := m.stepCount + 1 } })
        ∧ (m.kind ≠ .seek → s.levels.trk0.get d = true → 0 < m.target →
          s.grantStep d = recal.stepped d .inward { moving with running := some 1 })
        ∧ (m.kind ≠ .seek → s.levels.trk0.get d = true → m.target = 0 →
          ({ recal with port := { recal.port with dir := .outward } } : State).Settles
            (s.grantStep d) d m)

/-- R97, R98, R99, R106, R111: how a pulse meets the ACTIVE request in ROTATE: not its starting pulse, a
miss, a grant that the write-protect sample refuses, or a pass that begins. -/
def Obligations.PassNeedIsJudged : Prop :=
  ∀ (s : State) (d : Drive) (t : TagNo) (r : Request) (passed : Nat) (k : Bool) (pulse : Pulse) (p : Pass),
    s.activeTag d = some t → s.tag t = .active r passed .rotate k → r.duePass t = some p →
    let held : Bus :=
      ⟨some ⟨d, .pass⟩, if s.bus.reservation = some d then none else s.bus.reservation, some d⟩
    let side := r.work.side == 1
    ∃ q : State, s.needStage d pulse = q
      ∧ (r.work.startingPulse ≠ some pulse → q = s)
      ∧ (r.work.startingPulse = some pulse → s.bus.holder ≠ none ∨ s.bus.reservation = some d.other →
          q.drive d = { s.drive d with stats := { (s.drive d).stats with
              misses := raised (s.drive d).stats.misses } }
          ∧ q.drive d.other = s.drive d.other
          ∧ q = { s with
              units := q.units
              bus := { s.bus with reservation :=
                if s.bus.reservation = none then some d else s.bus.reservation } })
      ∧ (r.work.startingPulse = some pulse → s.bus.holder = none → s.bus.reservation ≠ some d.other →
          p.writes = true → s.levels.wprot.get d = true →
          q.tag t = .done r ⟨.writeProtected, none⟩ ∧ (∀ u, u ≠ t → q.tag u = s.tag u)
          ∧ q.list = s.list ++ [.reply t]
          ∧ q = { s with
              tags := q.tags, list := q.list, stall := q.stall, bus := { held with holder := none }
              port := { s.port.idle with side := side } })
      ∧ (r.work.startingPulse = some pulse → s.bus.holder = none → s.bus.reservation ≠ some d.other →
          p.writes = false ∨ s.levels.wprot.get d = false →
          q.tag t = .active r passed .pass k ∧ (∀ u, u ≠ t → q.tag u = s.tag u)
          ∧ q.port.sel.get d = true ∧ q.port.sel.get d.other = false
          ∧ (∀ n b, p.body = .writing n .gateOpen → p.buffer = some b →
              q.port = { s.port with
                sel := q.port.sel, side := side, wgate := true
                comp := decide ((s.geometry d).compTrack ≤ p.track)
                wdata := mediaBits (sectorRecord p.track p.side n (s.buffer b).contents.val) })
          ∧ ((∀ n, p.body ≠ .writing n .gateOpen) →
              q.port = { s.port with sel := q.port.sel, side := side })
          ∧ q = { s with tags := q.tags, pass := some p, bus := held, port := q.port })

/-- R84, R93, R94, R101, R105, R111, R115: every step keeps the select lines at the holder, a pass and a
stepping head with the hold that serves them, and the write gate at a pass that is writing its record. -/
def Obligations.BusIsKept : Prop :=
  ∀ s t : State, s.BusOk → step s = .next t → t.BusOk

/-! ### Sector transfers -/

/-- R103, R104, R170, Table 12-10: the 272 bytes of a sector record, whose last two are the media check of
its ID and data, their bits on the media, each byte's most significant first, and which reads back OK. -/
def Obligations.RecordLayout : Prop :=
  ∀ (track side sector : Nat) (data : Block),
    let id := [BitVec.ofNat 8 track, BitVec.ofNat 8 (side * 32 + sector)]
    let record := sectorRecord track side sector data.val
    record.length = 272 ∧ record.take 10 = List.replicate 10 0x55
      ∧ (record.drop 10).take 4 = [0x3C, 0x5A] ++ id ∧ (record.drop 14).take 256 = data.val
      ∧ word16Of (record.getD 270 0) (record.getD 271 0) = mediaCheck (id ++ data.val)
      ∧ (mediaBits record).length = 2176
      ∧ (∀ i j, i < 272 → j < 8 →
        (mediaBits record)[8 * i + j]? = some ((record.getD i 0).getLsbD (7 - j)))
      ∧ (∀ i, i < 272 → byteAt (mediaBits record) i = record.getD i 0)
      ∧ ∀ p : Pass, p.track = track → p.side = side → p.body = .reading false sector (.reading true) →
        p.recordArrived data (word16Of (record.getD 270 0) (record.getD 271 0)) none
          = .reading false sector (.decided .ok (some data))

/-- R108, R109, R114, R170: how a read or check pass takes the sync mark, the ID and the record from the bits
RDATA brings, each byte's most significant first; in every other stage, and with no pass, they have no
effect (R108; log entry 2). -/
def Obligations.ReadPassListens : Prop :=
  ∀ (s : State) (track sideSector : Bits 8) (bits : Bits 2048) (check : Bits 16), s.resetHold = none →
    ∃ (a b : Byte) (data : Block) (hi lo : Byte),
    track.val = mediaBits [a] ∧ sideSector.val = mediaBits [b] ∧ bits.val = mediaBits data.val
    ∧ check.val = mediaBits [hi, lo] ∧
    let went := fun (p : Pass) (checks : Bool) (n : Nat) (st : ReadStage) =>
      Host.Outcome.next { s with pass := some { p with body := .reading checks n st } }
    (∀ p checks n, s.pass = some p → p.body = .reading checks n .searching →
      exec .syncMarkFound s = went p checks n (.reading false))
    ∧ (∀ p checks n, s.pass = some p → p.body = .reading checks n (.reading false) →
      exec (.idComplete track sideSector) s = went p checks n (
        if a = BitVec.ofNat 8 p.track ∧ b = BitVec.ofNat 8 (p.side * 32 + n) then .reading true
        else .decided .idMismatch none))
    ∧ (∀ p checks n, s.pass = some p → p.body = .reading checks n (.reading true) →
      exec (.recordComplete bits check) s = went p checks n (.decided (
        if mediaCheck ([BitVec.ofNat 8 p.track, BitVec.ofNat 8 (p.side * 32 + n)] ++ data.val)
              = word16Of hi lo
            ∧ (checks = true → p.buffer.map (fun x => (s.buffer x).contents) = some data) then .ok
        else if checks = true then .verifyMismatch
        else .dataCheck) (some data)))
    ∧ ((∀ p checks n, s.pass = some p → p.body ≠ .reading checks n .searching) →
      exec .syncMarkFound s = .next s)
    ∧ ((∀ p checks n, s.pass = some p → p.body ≠ .reading checks n (.reading false)) →
      exec (.idComplete track sideSector) s = .next s)
    ∧ ((∀ p checks n, s.pass = some p → p.body ≠ .reading checks n (.reading true)) →
      exec (.recordComplete bits check) s = .next s)

/-- R112, R115, R54: the end of a record closes the gate, raises the drive's sectors written counter, and
is kept in the owning request; with no open gate it has no effect (log entry 2). -/
def Obligations.WrittenRecordCounts : Prop :=
  ∀ (s : State), s.resetHold = none →
    let closed := { s.port with wgate := false, comp := false, wdata := [] }
    let counted := fun (q : State) (p : Pass) (body : PassBody) =>
      q.pass = some { p with body := body } ∧ q.port = closed
        ∧ q.drive p.drive = { s.drive p.drive with stats := { (s.drive p.drive).stats with
            sectorsWritten := raised (s.drive p.drive).stats.sectorsWritten } }
        ∧ q.drive p.drive.other = s.drive p.drive.other
        ∧ (∀ t, p.owner ≠ .tag t → q.tag t = s.tag t)
        ∧ q = { s with pass := q.pass, port := q.port, units := q.units, tags := q.tags }
    (∀ p n, s.pass = some p → p.body = .writing n .gateOpen →
      ∃ q : State, exec .writeComplete s = .next q ∧ counted q p (.writing n .complete)
        ∧ ∀ t r c ph k, p.owner = .tag t → s.tag t = .active r c ph k →
          q.tag t = .active { r with
            written := 1
            work := match r.work with
              | .write a true b l _ => .write a true b l true
              | w => w } c ph k)
    ∧ (∀ p fill n done stop, s.pass = some p →
      p.body = .formatting fill (some ⟨n, .gateOpen⟩) done stop →
      ∃ q : State, exec .formatSectorComplete s = .next q
        ∧ counted q p (.formatting fill (some ⟨n, .complete⟩) (done + 1) stop)
        ∧ ∀ t r c ph k, p.owner = .tag t → s.tag t = .active r c ph k →
          q.tag t = .active { r with written := done + 1 } c ph k)
    ∧ ((∀ p n, s.pass = some p → p.body ≠ .writing n .gateOpen) → exec .writeComplete s = .next s)
    ∧ ((∀ p fill n done stop, s.pass = some p →
        p.body ≠ .formatting fill (some ⟨n, .gateOpen⟩) done stop) →
      exec .formatSectorComplete s = .next s)

/-- R107, R110, R113, R114, R116, R22, R124, Table 7-3: what the ending pulse of a pass does by the outcome
it finds; a sector pulse in a format revolution instead closes its sector and begins the next, unless stop
is marked. The ladder of a failed outcome is `Obligations.LadderSteps`. -/
def Obligations.OutcomeAtEndingPulse : Prop :=
  ∀ (s : State) (d : Drive) (pulse : Pulse) (p : Pass), s.pass = some p →
    let e := s.passOver p
    let q := s.passStage d pulse
    (p.drive ≠ d → q = s)
    ∧ (p.drive = d → ∀ fill current n done, pulse = .sector n →
      p.body = .formatting fill current done false →
      q = { s with
        pass := some { p with body := .formatting fill (some ⟨n, .gateOpen⟩) done false }
        port := { s.port with
          wgate := true, comp := decide ((s.geometry d).compTrack ≤ p.track)
          wdata := mediaBits (sectorRecord p.track p.side n (List.replicate 256 fill)) } })
    ∧ (p.drive = d →
      (∀ fill current n done, pulse = .sector n → p.body ≠ .formatting fill current done false) →
      (p.owner = .detached →
        (∀ b, q.buffer b = if p.buffer = some b then ⟨.free, (e.buffer b).contents⟩ else e.buffer b)
        ∧ q = { e with buffers := q.buffers })
      ∧ (∀ t r c ph, p.owner = .tag t → s.tag t = .active r c ph true →
        q = e.finishTag t .aborted)
      ∧ ∀ t r c ph, p.owner = .tag t → s.tag t = .active r c ph false →
        match p.body, p.body.found with
        | .formatting _ _ _ _, _ => q = e.finishTag t .ok
        | .writing _ _, .written =>
          q = match r.work with
            | .write _ true _ _ _ => e.setTag t (.active r c .rotate false)
            | _ => e.finishTag t .ok
        | .reading true _ _, .ok => q = e.finishTag t .ok
        | .reading false _ _, .ok => q = (e.setStats r.drive { (s.drive r.drive).stats with
            sectorsRead := raised (s.drive r.drive).stats.sectorsRead }).finishTag t .ok
        | body, o => q = e.failAttempt t r (match body with | .reading check _ _ => check | _ => false) o)

/-- R117, R118, R119: the retry ladder of a failed outcome: the counts, the exhaustion of the attempts, the
recalibration after two ID mismatches in a row, or the return to ROTATE. -/
def Obligations.LadderSteps : Prop :=
  ∀ (s : State) (t : TagNo) (r : Request) (c : Nat) (ph : Phase) (k check : Bool) (o : Outcome)
      (l : Ladder), s.tag t = .active r c ph k → r.work.ladder? = some l →
    let d := r.drive
    let attempts := l.attempts + 1
    let run := if o = .idMismatch then min 2 (l.idRun + 1) else 0
    let q := s.failAttempt t r check o
    let after := fun (run : Nat) (mark : Bool) (st : Request → TagState) =>
      q.tag t = st { r with work := r.work.afterFailure check ⟨attempts, run, mark⟩ }
    (∀ u, u ≠ t → q.tag u = s.tag u) ∧ q.drive d.other = s.drive d.other
    ∧ q.drive d = { s.drive d with
        head := (q.drive d).head
        stats := { (s.drive d).stats with
          failedAttempts := raised (s.drive d).stats.failedAttempts } }
    ∧ q = { s with tags := q.tags, units := q.units, list := q.list, stall := q.stall }
    ∧ (if attempts = 1 + (s.geometry d).retryLimit then
        after run l.recalibrated (fun x => .done x ⟨o.status, none⟩) ∧ q.list = s.list ++ [.reply t]
        ∧ (q.drive d).head = (s.drive d).head
      else if run = 2 ∧ l.recalibrated = false then
        after 0 true (fun x => .active x c .position k) ∧ q.list = s.list ∧ q.stall = s.stall
        ∧ (q.drive d).head = { (s.drive d).head with
            motion := some ⟨.recalThenSeek, r.work.track, .tag t, .waiting, 0⟩ }
      else
        after run l.recalibrated (fun x => .active x c .rotate k) ∧ q.list = s.list ∧ q.stall = s.stall
        ∧ (q.drive d).head = (s.drive d).head)

/-! ### The whole part -/

/-- Every step keeps every invariant of the part: besides those stated block by block, what each ACTIVE
request has under way, the owners of motions and passes, the reservation, the buffer bindings, and work on
every drive that can serve it (R26, R30 to R32, R77, R90, R96, R100, R106, R127). -/
def Obligations.CoherentIsKept : Prop :=
  ∀ s t : State, s.Coherent → step s = .next t → t.Coherent
end

