-- ==== Sys2Proof/Laws/State.lean ====
section
/-! SUPPORT. What each update of the state leaves and what it writes: one lemma per field per update, true
by `rfl`, and the read-after-write lemmas of drives, tags and buffers. No proof has to unfold a record
update. -/

namespace Sys2Proof

@[simp] theorem Drive.other_other (d : Drive) : d.other.other = d := by cases d <;> rfl
@[simp] theorem Drive.other_ne (d : Drive) : d.other ≠ d := by cases d <;> decide
@[simp] theorem Drive.ne_other (d : Drive) : d ≠ d.other := by cases d <;> decide

theorem Drive.eq_or_other (d e : Drive) : e = d ∨ e = d.other := by
  cases d <;> cases e <;> decide

@[simp] theorem Pair.get_set {α : Type} (p : Pair α) (d : Drive) (a : α) : (p.set d a).get d = a := by
  cases d <;> rfl

@[simp] theorem Pair.get_set_other {α : Type} (p : Pair α) (d : Drive) (a : α) :
    (p.set d a).get d.other = p.get d.other := by cases d <;> rfl

@[simp] theorem Pair.get_other_set {α : Type} (p : Pair α) (d : Drive) (a : α) :
    (p.set d.other a).get d = p.get d := by cases d <;> rfl

theorem Pair.get_set_ne {α : Type} (p : Pair α) {d e : Drive} (h : e ≠ d) (a : α) :
    (p.set d a).get e = p.get e := by cases d <;> cases e <;> first | rfl | exact absurd rfl h

@[simp] theorem Pair.set_get {α : Type} (p : Pair α) (d : Drive) : p.set d (p.get d) = p := by
  cases d <;> rfl

@[simp] theorem Pair.set_set {α : Type} (p : Pair α) (d : Drive) (a b : α) :
    (p.set d a).set d b = p.set d b := by cases d <;> rfl

theorem Pair.ext_get {α : Type} {p q : Pair α} (h : ∀ d, p.get d = q.get d) : p = q := by
  cases p
  cases q
  have h0 := h .d0
  have h1 := h .d1
  simp only [Pair.get] at h0 h1
  rw [h0, h1]

end Sys2Proof

namespace Sys2Proof.Machine

/-! ### setDrive -/

@[simp] theorem State.setDrive_rx (s : State) (d : Drive) (u : DriveUnit) : (s.setDrive d u).rx = s.rx := rfl
@[simp] theorem State.setDrive_list (s : State) (d : Drive) (u : DriveUnit) :
    (s.setDrive d u).list = s.list := rfl
@[simp] theorem State.setDrive_tx (s : State) (d : Drive) (u : DriveUnit) : (s.setDrive d u).tx = s.tx := rfl
@[simp] theorem State.setDrive_stall (s : State) (d : Drive) (u : DriveUnit) :
    (s.setDrive d u).stall = s.stall := rfl
@[simp] theorem State.setDrive_session (s : State) (d : Drive) (u : DriveUnit) :
    (s.setDrive d u).session = s.session := rfl
@[simp] theorem State.setDrive_tags (s : State) (d : Drive) (u : DriveUnit) :
    (s.setDrive d u).tags = s.tags := rfl
@[simp] theorem State.setDrive_nextStamp (s : State) (d : Drive) (u : DriveUnit) :
    (s.setDrive d u).nextStamp = s.nextStamp := rfl
@[simp] theorem State.setDrive_bus (s : State) (d : Drive) (u : DriveUnit) :
    (s.setDrive d u).bus = s.bus := rfl
@[simp] theorem State.setDrive_port (s : State) (d : Drive) (u : DriveUnit) :
    (s.setDrive d u).port = s.port := rfl
@[simp] theorem State.setDrive_pass (s : State) (d : Drive) (u : DriveUnit) :
    (s.setDrive d u).pass = s.pass := rfl
@[simp] theorem State.setDrive_buffers (s : State) (d : Drive) (u : DriveUnit) :
    (s.setDrive d u).buffers = s.buffers := rfl
@[simp] theorem State.setDrive_rate (s : State) (d : Drive) (u : DriveUnit) :
    (s.setDrive d u).rate = s.rate := rfl
@[simp] theorem State.setDrive_hold (s : State) (d : Drive) (u : DriveUnit) :
    (s.setDrive d u).hold = s.hold := rfl
@[simp] theorem State.setDrive_levels (s : State) (d : Drive) (u : DriveUnit) :
    (s.setDrive d u).levels = s.levels := rfl
@[simp] theorem State.setDrive_resetHold (s : State) (d : Drive) (u : DriveUnit) :
    (s.setDrive d u).resetHold = s.resetHold := rfl
@[simp] theorem State.setDrive_draws (s : State) (d : Drive) (u : DriveUnit) :
    (s.setDrive d u).draws = s.draws := rfl
@[simp] theorem State.setDrive_pending (s : State) (d : Drive) (u : DriveUnit) :
    (s.setDrive d u).pending = s.pending := rfl

/-! ### setQueue -/

@[simp] theorem State.setQueue_rx (s : State) (d : Drive) (q : List TagNo) : (s.setQueue d q).rx = s.rx := rfl
@[simp] theorem State.setQueue_list (s : State) (d : Drive) (q : List TagNo) :
    (s.setQueue d q).list = s.list := rfl
@[simp] theorem State.setQueue_tx (s : State) (d : Drive) (q : List TagNo) : (s.setQueue d q).tx = s.tx := rfl
@[simp] theorem State.setQueue_stall (s : State) (d : Drive) (q : List TagNo) :
    (s.setQueue d q).stall = s.stall := rfl
@[simp] theorem State.setQueue_session (s : State) (d : Drive) (q : List TagNo) :
    (s.setQueue d q).session = s.session := rfl
@[simp] theorem State.setQueue_tags (s : State) (d : Drive) (q : List TagNo) :
    (s.setQueue d q).tags = s.tags := rfl
@[simp] theorem State.setQueue_nextStamp (s : State) (d : Drive) (q : List TagNo) :
    (s.setQueue d q).nextStamp = s.nextStamp := rfl
@[simp] theorem State.setQueue_bus (s : State) (d : Drive) (q : List TagNo) :
    (s.setQueue d q).bus = s.bus := rfl
@[simp] theorem State.setQueue_port (s : State) (d : Drive) (q : List TagNo) :
    (s.setQueue d q).port = s.port := rfl
@[simp] theorem State.setQueue_pass (s : State) (d : Drive) (q : List TagNo) :
    (s.setQueue d q).pass = s.pass := rfl
@[simp] theorem State.setQueue_buffers (s : State) (d : Drive) (q : List TagNo) :
    (s.setQueue d q).buffers = s.buffers := rfl
@[simp] theorem State.setQueue_rate (s : State) (d : Drive) (q : List TagNo) :
    (s.setQueue d q).rate = s.rate := rfl
@[simp] theorem State.setQueue_hold (s : State) (d : Drive) (q : List TagNo) :
    (s.setQueue d q).hold = s.hold := rfl
@[simp] theorem State.setQueue_levels (s : State) (d : Drive) (q : List TagNo) :
    (s.setQueue d q).levels = s.levels := rfl
@[simp] theorem State.setQueue_resetHold (s : State) (d : Drive) (q : List TagNo) :
    (s.setQueue d q).resetHold = s.resetHold := rfl
@[simp] theorem State.setQueue_draws (s : State) (d : Drive) (q : List TagNo) :
    (s.setQueue d q).draws = s.draws := rfl
@[simp] theorem State.setQueue_pending (s : State) (d : Drive) (q : List TagNo) :
    (s.setQueue d q).pending = s.pending := rfl

/-! ### setSweep -/

@[simp] theorem State.setSweep_rx (s : State) (d : Drive) (x : Direction) : (s.setSweep d x).rx = s.rx := rfl
@[simp] theorem State.setSweep_list (s : State) (d : Drive) (x : Direction) :
    (s.setSweep d x).list = s.list := rfl
@[simp] theorem State.setSweep_tx (s : State) (d : Drive) (x : Direction) : (s.setSweep d x).tx = s.tx := rfl
@[simp] theorem State.setSweep_stall (s : State) (d : Drive) (x : Direction) :
    (s.setSweep d x).stall = s.stall := rfl
@[simp] theorem State.setSweep_session (s : State) (d : Drive) (x : Direction) :
    (s.setSweep d x).session = s.session := rfl
@[simp] theorem State.setSweep_tags (s : State) (d : Drive) (x : Direction) :
    (s.setSweep d x).tags = s.tags := rfl
@[simp] theorem State.setSweep_nextStamp (s : State) (d : Drive) (x : Direction) :
    (s.setSweep d x).nextStamp = s.nextStamp := rfl
@[simp] theorem State.setSweep_bus (s : State) (d : Drive) (x : Direction) :
    (s.setSweep d x).bus = s.bus := rfl
@[simp] theorem State.setSweep_port (s : State) (d : Drive) (x : Direction) :
    (s.setSweep d x).port = s.port := rfl
@[simp] theorem State.setSweep_pass (s : State) (d : Drive) (x : Direction) :
    (s.setSweep d x).pass = s.pass := rfl
@[simp] theorem State.setSweep_buffers (s : State) (d : Drive) (x : Direction) :
    (s.setSweep d x).buffers = s.buffers := rfl
@[simp] theorem State.setSweep_rate (s : State) (d : Drive) (x : Direction) :
    (s.setSweep d x).rate = s.rate := rfl
@[simp] theorem State.setSweep_hold (s : State) (d : Drive) (x : Direction) :
    (s.setSweep d x).hold = s.hold := rfl
@[simp] theorem State.setSweep_levels (s : State) (d : Drive) (x : Direction) :
    (s.setSweep d x).levels = s.levels := rfl
@[simp] theorem State.setSweep_resetHold (s : State) (d : Drive) (x : Direction) :
    (s.setSweep d x).resetHold = s.resetHold := rfl
@[simp] theorem State.setSweep_draws (s : State) (d : Drive) (x : Direction) :
    (s.setSweep d x).draws = s.draws := rfl
@[simp] theorem State.setSweep_pending (s : State) (d : Drive) (x : Direction) :
    (s.setSweep d x).pending = s.pending := rfl

/-! ### setSpindle -/

@[simp] theorem State.setSpindle_rx (s : State) (d : Drive) (x : Spindle) :
    (s.setSpindle d x).rx = s.rx := rfl
@[simp] theorem State.setSpindle_list (s : State) (d : Drive) (x : Spindle) :
    (s.setSpindle d x).list = s.list := rfl
@[simp] theorem State.setSpindle_tx (s : State) (d : Drive) (x : Spindle) :
    (s.setSpindle d x).tx = s.tx := rfl
@[simp] theorem State.setSpindle_stall (s : State) (d : Drive) (x : Spindle) :
    (s.setSpindle d x).stall = s.stall := rfl
@[simp] theorem State.setSpindle_session (s : State) (d : Drive) (x : Spindle) :
    (s.setSpindle d x).session = s.session := rfl
@[simp] theorem State.setSpindle_tags (s : State) (d : Drive) (x : Spindle) :
    (s.setSpindle d x).tags = s.tags := rfl
@[simp] theorem State.setSpindle_nextStamp (s : State) (d : Drive) (x : Spindle) :
    (s.setSpindle d x).nextStamp = s.nextStamp := rfl
@[simp] theorem State.setSpindle_bus (s : State) (d : Drive) (x : Spindle) :
    (s.setSpindle d x).bus = s.bus := rfl
@[simp] theorem State.setSpindle_port (s : State) (d : Drive) (x : Spindle) :
    (s.setSpindle d x).port = s.port := rfl
@[simp] theorem State.setSpindle_pass (s : State) (d : Drive) (x : Spindle) :
    (s.setSpindle d x).pass = s.pass := rfl
@[simp] theorem State.setSpindle_buffers (s : State) (d : Drive) (x : Spindle) :
    (s.setSpindle d x).buffers = s.buffers := rfl
@[simp] theorem State.setSpindle_rate (s : State) (d : Drive) (x : Spindle) :
    (s.setSpindle d x).rate = s.rate := rfl
@[simp] theorem State.setSpindle_hold (s : State) (d : Drive) (x : Spindle) :
    (s.setSpindle d x).hold = s.hold := rfl
@[simp] theorem State.setSpindle_levels (s : State) (d : Drive) (x : Spindle) :
    (s.setSpindle d x).levels = s.levels := rfl
@[simp] theorem State.setSpindle_resetHold (s : State) (d : Drive) (x : Spindle) :
    (s.setSpindle d x).resetHold = s.resetHold := rfl
@[simp] theorem State.setSpindle_draws (s : State) (d : Drive) (x : Spindle) :
    (s.setSpindle d x).draws = s.draws := rfl
@[simp] theorem State.setSpindle_pending (s : State) (d : Drive) (x : Spindle) :
    (s.setSpindle d x).pending = s.pending := rfl

/-! ### setHead -/

@[simp] theorem State.setHead_rx (s : State) (d : Drive) (x : Head) : (s.setHead d x).rx = s.rx := rfl
@[simp] theorem State.setHead_list (s : State) (d : Drive) (x : Head) : (s.setHead d x).list = s.list := rfl
@[simp] theorem State.setHead_tx (s : State) (d : Drive) (x : Head) : (s.setHead d x).tx = s.tx := rfl
@[simp] theorem State.setHead_stall (s : State) (d : Drive) (x : Head) :
    (s.setHead d x).stall = s.stall := rfl
@[simp] theorem State.setHead_session (s : State) (d : Drive) (x : Head) :
    (s.setHead d x).session = s.session := rfl
@[simp] theorem State.setHead_tags (s : State) (d : Drive) (x : Head) : (s.setHead d x).tags = s.tags := rfl
@[simp] theorem State.setHead_nextStamp (s : State) (d : Drive) (x : Head) :
    (s.setHead d x).nextStamp = s.nextStamp := rfl
@[simp] theorem State.setHead_bus (s : State) (d : Drive) (x : Head) : (s.setHead d x).bus = s.bus := rfl
@[simp] theorem State.setHead_port (s : State) (d : Drive) (x : Head) : (s.setHead d x).port = s.port := rfl
@[simp] theorem State.setHead_pass (s : State) (d : Drive) (x : Head) : (s.setHead d x).pass = s.pass := rfl
@[simp] theorem State.setHead_buffers (s : State) (d : Drive) (x : Head) :
    (s.setHead d x).buffers = s.buffers := rfl
@[simp] theorem State.setHead_rate (s : State) (d : Drive) (x : Head) : (s.setHead d x).rate = s.rate := rfl
@[simp] theorem State.setHead_hold (s : State) (d : Drive) (x : Head) : (s.setHead d x).hold = s.hold := rfl
@[simp] theorem State.setHead_levels (s : State) (d : Drive) (x : Head) :
    (s.setHead d x).levels = s.levels := rfl
@[simp] theorem State.setHead_resetHold (s : State) (d : Drive) (x : Head) :
    (s.setHead d x).resetHold = s.resetHold := rfl
@[simp] theorem State.setHead_draws (s : State) (d : Drive) (x : Head) :
    (s.setHead d x).draws = s.draws := rfl
@[simp] theorem State.setHead_pending (s : State) (d : Drive) (x : Head) :
    (s.setHead d x).pending = s.pending := rfl

/-! ### setStats -/

@[simp] theorem State.setStats_rx (s : State) (d : Drive) (x : Stats) : (s.setStats d x).rx = s.rx := rfl
@[simp] theorem State.setStats_list (s : State) (d : Drive) (x : Stats) :
    (s.setStats d x).list = s.list := rfl
@[simp] theorem State.setStats_tx (s : State) (d : Drive) (x : Stats) : (s.setStats d x).tx = s.tx := rfl
@[simp] theorem State.setStats_stall (s : State) (d : Drive) (x : Stats) :
    (s.setStats d x).stall = s.stall := rfl
@[simp] theorem State.setStats_session (s : State) (d : Drive) (x : Stats) :
    (s.setStats d x).session = s.session := rfl
@[simp] theorem State.setStats_tags (s : State) (d : Drive) (x : Stats) :
    (s.setStats d x).tags = s.tags := rfl
@[simp] theorem State.setStats_nextStamp (s : State) (d : Drive) (x : Stats) :
    (s.setStats d x).nextStamp = s.nextStamp := rfl
@[simp] theorem State.setStats_bus (s : State) (d : Drive) (x : Stats) : (s.setStats d x).bus = s.bus := rfl
@[simp] theorem State.setStats_port (s : State) (d : Drive) (x : Stats) :
    (s.setStats d x).port = s.port := rfl
@[simp] theorem State.setStats_pass (s : State) (d : Drive) (x : Stats) :
    (s.setStats d x).pass = s.pass := rfl
@[simp] theorem State.setStats_buffers (s : State) (d : Drive) (x : Stats) :
    (s.setStats d x).buffers = s.buffers := rfl
@[simp] theorem State.setStats_rate (s : State) (d : Drive) (x : Stats) :
    (s.setStats d x).rate = s.rate := rfl
@[simp] theorem State.setStats_hold (s : State) (d : Drive) (x : Stats) :
    (s.setStats d x).hold = s.hold := rfl
@[simp] theorem State.setStats_levels (s : State) (d : Drive) (x : Stats) :
    (s.setStats d x).levels = s.levels := rfl
@[simp] theorem State.setStats_resetHold (s : State) (d : Drive) (x : Stats) :
    (s.setStats d x).resetHold = s.resetHold := rfl
@[simp] theorem State.setStats_draws (s : State) (d : Drive) (x : Stats) :
    (s.setStats d x).draws = s.draws := rfl
@[simp] theorem State.setStats_pending (s : State) (d : Drive) (x : Stats) :
    (s.setStats d x).pending = s.pending := rfl

/-! ### setTag -/

@[simp] theorem State.setTag_rx (s : State) (t : TagNo) (x : TagState) : (s.setTag t x).rx = s.rx := rfl
@[simp] theorem State.setTag_list (s : State) (t : TagNo) (x : TagState) : (s.setTag t x).list = s.list := rfl
@[simp] theorem State.setTag_tx (s : State) (t : TagNo) (x : TagState) : (s.setTag t x).tx = s.tx := rfl
@[simp] theorem State.setTag_stall (s : State) (t : TagNo) (x : TagState) :
    (s.setTag t x).stall = s.stall := rfl
@[simp] theorem State.setTag_session (s : State) (t : TagNo) (x : TagState) :
    (s.setTag t x).session = s.session := rfl
@[simp] theorem State.setTag_nextStamp (s : State) (t : TagNo) (x : TagState) :
    (s.setTag t x).nextStamp = s.nextStamp := rfl
@[simp] theorem State.setTag_units (s : State) (t : TagNo) (x : TagState) :
    (s.setTag t x).units = s.units := rfl
@[simp] theorem State.setTag_bus (s : State) (t : TagNo) (x : TagState) : (s.setTag t x).bus = s.bus := rfl
@[simp] theorem State.setTag_port (s : State) (t : TagNo) (x : TagState) : (s.setTag t x).port = s.port := rfl
@[simp] theorem State.setTag_pass (s : State) (t : TagNo) (x : TagState) : (s.setTag t x).pass = s.pass := rfl
@[simp] theorem State.setTag_buffers (s : State) (t : TagNo) (x : TagState) :
    (s.setTag t x).buffers = s.buffers := rfl
@[simp] theorem State.setTag_rate (s : State) (t : TagNo) (x : TagState) : (s.setTag t x).rate = s.rate := rfl
@[simp] theorem State.setTag_hold (s : State) (t : TagNo) (x : TagState) : (s.setTag t x).hold = s.hold := rfl
@[simp] theorem State.setTag_levels (s : State) (t : TagNo) (x : TagState) :
    (s.setTag t x).levels = s.levels := rfl
@[simp] theorem State.setTag_resetHold (s : State) (t : TagNo) (x : TagState) :
    (s.setTag t x).resetHold = s.resetHold := rfl
@[simp] theorem State.setTag_draws (s : State) (t : TagNo) (x : TagState) :
    (s.setTag t x).draws = s.draws := rfl
@[simp] theorem State.setTag_pending (s : State) (t : TagNo) (x : TagState) :
    (s.setTag t x).pending = s.pending := rfl

/-! ### mapTags -/

@[simp] theorem State.mapTags_rx (s : State) (f : TagNo → TagState → TagState) :
    (s.mapTags f).rx = s.rx := rfl
@[simp] theorem State.mapTags_list (s : State) (f : TagNo → TagState → TagState) :
    (s.mapTags f).list = s.list := rfl
@[simp] theorem State.mapTags_tx (s : State) (f : TagNo → TagState → TagState) :
    (s.mapTags f).tx = s.tx := rfl
@[simp] theorem State.mapTags_stall (s : State) (f : TagNo → TagState → TagState) :
    (s.mapTags f).stall = s.stall := rfl
@[simp] theorem State.mapTags_session (s : State) (f : TagNo → TagState → TagState) :
    (s.mapTags f).session = s.session := rfl
@[simp] theorem State.mapTags_nextStamp (s : State) (f : TagNo → TagState → TagState) :
    (s.mapTags f).nextStamp = s.nextStamp := rfl
@[simp] theorem State.mapTags_units (s : State) (f : TagNo → TagState → TagState) :
    (s.mapTags f).units = s.units := rfl
@[simp] theorem State.mapTags_bus (s : State) (f : TagNo → TagState → TagState) :
    (s.mapTags f).bus = s.bus := rfl
@[simp] theorem State.mapTags_port (s : State) (f : TagNo → TagState → TagState) :
    (s.mapTags f).port = s.port := rfl
@[simp] theorem State.mapTags_pass (s : State) (f : TagNo → TagState → TagState) :
    (s.mapTags f).pass = s.pass := rfl
@[simp] theorem State.mapTags_buffers (s : State) (f : TagNo → TagState → TagState) :
    (s.mapTags f).buffers = s.buffers := rfl
@[simp] theorem State.mapTags_rate (s : State) (f : TagNo → TagState → TagState) :
    (s.mapTags f).rate = s.rate := rfl
@[simp] theorem State.mapTags_hold (s : State) (f : TagNo → TagState → TagState) :
    (s.mapTags f).hold = s.hold := rfl
@[simp] theorem State.mapTags_levels (s : State) (f : TagNo → TagState → TagState) :
    (s.mapTags f).levels = s.levels := rfl
@[simp] theorem State.mapTags_resetHold (s : State) (f : TagNo → TagState → TagState) :
    (s.mapTags f).resetHold = s.resetHold := rfl
@[simp] theorem State.mapTags_draws (s : State) (f : TagNo → TagState → TagState) :
    (s.mapTags f).draws = s.draws := rfl
@[simp] theorem State.mapTags_pending (s : State) (f : TagNo → TagState → TagState) :
    (s.mapTags f).pending = s.pending := rfl

/-! ### setBuffer -/

@[simp] theorem State.setBuffer_rx (s : State) (b : BufNo) (x : Buffer) : (s.setBuffer b x).rx = s.rx := rfl
@[simp] theorem State.setBuffer_list (s : State) (b : BufNo) (x : Buffer) :
    (s.setBuffer b x).list = s.list := rfl
@[simp] theorem State.setBuffer_tx (s : State) (b : BufNo) (x : Buffer) : (s.setBuffer b x).tx = s.tx := rfl
@[simp] theorem State.setBuffer_stall (s : State) (b : BufNo) (x : Buffer) :
    (s.setBuffer b x).stall = s.stall := rfl
@[simp] theorem State.setBuffer_session (s : State) (b : BufNo) (x : Buffer) :
    (s.setBuffer b x).session = s.session := rfl
@[simp] theorem State.setBuffer_tags (s : State) (b : BufNo) (x : Buffer) :
    (s.setBuffer b x).tags = s.tags := rfl
@[simp] theorem State.setBuffer_nextStamp (s : State) (b : BufNo) (x : Buffer) :
    (s.setBuffer b x).nextStamp = s.nextStamp := rfl
@[simp] theorem State.setBuffer_units (s : State) (b : BufNo) (x : Buffer) :
    (s.setBuffer b x).units = s.units := rfl
@[simp] theorem State.setBuffer_bus (s : State) (b : BufNo) (x : Buffer) :
    (s.setBuffer b x).bus = s.bus := rfl
@[simp] theorem State.setBuffer_port (s : State) (b : BufNo) (x : Buffer) :
    (s.setBuffer b x).port = s.port := rfl
@[simp] theorem State.setBuffer_pass (s : State) (b : BufNo) (x : Buffer) :
    (s.setBuffer b x).pass = s.pass := rfl
@[simp] theorem State.setBuffer_rate (s : State) (b : BufNo) (x : Buffer) :
    (s.setBuffer b x).rate = s.rate := rfl
@[simp] theorem State.setBuffer_hold (s : State) (b : BufNo) (x : Buffer) :
    (s.setBuffer b x).hold = s.hold := rfl
@[simp] theorem State.setBuffer_levels (s : State) (b : BufNo) (x : Buffer) :
    (s.setBuffer b x).levels = s.levels := rfl
@[simp] theorem State.setBuffer_resetHold (s : State) (b : BufNo) (x : Buffer) :
    (s.setBuffer b x).resetHold = s.resetHold := rfl
@[simp] theorem State.setBuffer_draws (s : State) (b : BufNo) (x : Buffer) :
    (s.setBuffer b x).draws = s.draws := rfl
@[simp] theorem State.setBuffer_pending (s : State) (b : BufNo) (x : Buffer) :
    (s.setBuffer b x).pending = s.pending := rfl

/-! ### mapBuffers -/

@[simp] theorem State.mapBuffers_rx (s : State) (f : BufNo → Buffer → Buffer) :
    (s.mapBuffers f).rx = s.rx := rfl
@[simp] theorem State.mapBuffers_list (s : State) (f : BufNo → Buffer → Buffer) :
    (s.mapBuffers f).list = s.list := rfl
@[simp] theorem State.mapBuffers_tx (s : State) (f : BufNo → Buffer → Buffer) :
    (s.mapBuffers f).tx = s.tx := rfl
@[simp] theorem State.mapBuffers_stall (s : State) (f : BufNo → Buffer → Buffer) :
    (s.mapBuffers f).stall = s.stall := rfl
@[simp] theorem State.mapBuffers_session (s : State) (f : BufNo → Buffer → Buffer) :
    (s.mapBuffers f).session = s.session := rfl
@[simp] theorem State.mapBuffers_tags (s : State) (f : BufNo → Buffer → Buffer) :
    (s.mapBuffers f).tags = s.tags := rfl
@[simp] theorem State.mapBuffers_nextStamp (s : State) (f : BufNo → Buffer → Buffer) :
    (s.mapBuffers f).nextStamp = s.nextStamp := rfl
@[simp] theorem State.mapBuffers_units (s : State) (f : BufNo → Buffer → Buffer) :
    (s.mapBuffers f).units = s.units := rfl
@[simp] theorem State.mapBuffers_bus (s : State) (f : BufNo → Buffer → Buffer) :
    (s.mapBuffers f).bus = s.bus := rfl
@[simp] theorem State.mapBuffers_port (s : State) (f : BufNo → Buffer → Buffer) :
    (s.mapBuffers f).port = s.port := rfl
@[simp] theorem State.mapBuffers_pass (s : State) (f : BufNo → Buffer → Buffer) :
    (s.mapBuffers f).pass = s.pass := rfl
@[simp] theorem State.mapBuffers_rate (s : State) (f : BufNo → Buffer → Buffer) :
    (s.mapBuffers f).rate = s.rate := rfl
@[simp] theorem State.mapBuffers_hold (s : State) (f : BufNo → Buffer → Buffer) :
    (s.mapBuffers f).hold = s.hold := rfl
@[simp] theorem State.mapBuffers_levels (s : State) (f : BufNo → Buffer → Buffer) :
    (s.mapBuffers f).levels = s.levels := rfl
@[simp] theorem State.mapBuffers_resetHold (s : State) (f : BufNo → Buffer → Buffer) :
    (s.mapBuffers f).resetHold = s.resetHold := rfl
@[simp] theorem State.mapBuffers_draws (s : State) (f : BufNo → Buffer → Buffer) :
    (s.mapBuffers f).draws = s.draws := rfl
@[simp] theorem State.mapBuffers_pending (s : State) (f : BufNo → Buffer → Buffer) :
    (s.mapBuffers f).pending = s.pending := rfl

/-! ### bindBuffer -/

@[simp] theorem State.bindBuffer_rx (s : State) (b : BufNo) (x : Binding) :
    (s.bindBuffer b x).rx = s.rx := rfl
@[simp] theorem State.bindBuffer_list (s : State) (b : BufNo) (x : Binding) :
    (s.bindBuffer b x).list = s.list := rfl
@[simp] theorem State.bindBuffer_tx (s : State) (b : BufNo) (x : Binding) :
    (s.bindBuffer b x).tx = s.tx := rfl
@[simp] theorem State.bindBuffer_stall (s : State) (b : BufNo) (x : Binding) :
    (s.bindBuffer b x).stall = s.stall := rfl
@[simp] theorem State.bindBuffer_session (s : State) (b : BufNo) (x : Binding) :
    (s.bindBuffer b x).session = s.session := rfl
@[simp] theorem State.bindBuffer_tags (s : State) (b : BufNo) (x : Binding) :
    (s.bindBuffer b x).tags = s.tags := rfl
@[simp] theorem State.bindBuffer_nextStamp (s : State) (b : BufNo) (x : Binding) :
    (s.bindBuffer b x).nextStamp = s.nextStamp := rfl
@[simp] theorem State.bindBuffer_units (s : State) (b : BufNo) (x : Binding) :
    (s.bindBuffer b x).units = s.units := rfl
@[simp] theorem State.bindBuffer_bus (s : State) (b : BufNo) (x : Binding) :
    (s.bindBuffer b x).bus = s.bus := rfl
@[simp] theorem State.bindBuffer_port (s : State) (b : BufNo) (x : Binding) :
    (s.bindBuffer b x).port = s.port := rfl
@[simp] theorem State.bindBuffer_pass (s : State) (b : BufNo) (x : Binding) :
    (s.bindBuffer b x).pass = s.pass := rfl
@[simp] theorem State.bindBuffer_rate (s : State) (b : BufNo) (x : Binding) :
    (s.bindBuffer b x).rate = s.rate := rfl
@[simp] theorem State.bindBuffer_hold (s : State) (b : BufNo) (x : Binding) :
    (s.bindBuffer b x).hold = s.hold := rfl
@[simp] theorem State.bindBuffer_levels (s : State) (b : BufNo) (x : Binding) :
    (s.bindBuffer b x).levels = s.levels := rfl
@[simp] theorem State.bindBuffer_resetHold (s : State) (b : BufNo) (x : Binding) :
    (s.bindBuffer b x).resetHold = s.resetHold := rfl
@[simp] theorem State.bindBuffer_draws (s : State) (b : BufNo) (x : Binding) :
    (s.bindBuffer b x).draws = s.draws := rfl
@[simp] theorem State.bindBuffer_pending (s : State) (b : BufNo) (x : Binding) :
    (s.bindBuffer b x).pending = s.pending := rfl

/-! ### fillBuffer -/

@[simp] theorem State.fillBuffer_rx (s : State) (b : BufNo) (x : Block) : (s.fillBuffer b x).rx = s.rx := rfl
@[simp] theorem State.fillBuffer_list (s : State) (b : BufNo) (x : Block) :
    (s.fillBuffer b x).list = s.list := rfl
@[simp] theorem State.fillBuffer_tx (s : State) (b : BufNo) (x : Block) : (s.fillBuffer b x).tx = s.tx := rfl
@[simp] theorem State.fillBuffer_stall (s : State) (b : BufNo) (x : Block) :
    (s.fillBuffer b x).stall = s.stall := rfl
@[simp] theorem State.fillBuffer_session (s : State) (b : BufNo) (x : Block) :
    (s.fillBuffer b x).session = s.session := rfl
@[simp] theorem State.fillBuffer_tags (s : State) (b : BufNo) (x : Block) :
    (s.fillBuffer b x).tags = s.tags := rfl
@[simp] theorem State.fillBuffer_nextStamp (s : State) (b : BufNo) (x : Block) :
    (s.fillBuffer b x).nextStamp = s.nextStamp := rfl
@[simp] theorem State.fillBuffer_units (s : State) (b : BufNo) (x : Block) :
    (s.fillBuffer b x).units = s.units := rfl
@[simp] theorem State.fillBuffer_bus (s : State) (b : BufNo) (x : Block) :
    (s.fillBuffer b x).bus = s.bus := rfl
@[simp] theorem State.fillBuffer_port (s : State) (b : BufNo) (x : Block) :
    (s.fillBuffer b x).port = s.port := rfl
@[simp] theorem State.fillBuffer_pass (s : State) (b : BufNo) (x : Block) :
    (s.fillBuffer b x).pass = s.pass := rfl
@[simp] theorem State.fillBuffer_rate (s : State) (b : BufNo) (x : Block) :
    (s.fillBuffer b x).rate = s.rate := rfl
@[simp] theorem State.fillBuffer_hold (s : State) (b : BufNo) (x : Block) :
    (s.fillBuffer b x).hold = s.hold := rfl
@[simp] theorem State.fillBuffer_levels (s : State) (b : BufNo) (x : Block) :
    (s.fillBuffer b x).levels = s.levels := rfl
@[simp] theorem State.fillBuffer_resetHold (s : State) (b : BufNo) (x : Block) :
    (s.fillBuffer b x).resetHold = s.resetHold := rfl
@[simp] theorem State.fillBuffer_draws (s : State) (b : BufNo) (x : Block) :
    (s.fillBuffer b x).draws = s.draws := rfl
@[simp] theorem State.fillBuffer_pending (s : State) (b : BufNo) (x : Block) :
    (s.fillBuffer b x).pending = s.pending := rfl

/-! ### setList -/

@[simp] theorem State.setList_rx (s : State) (l : List Entry) : (s.setList l).rx = s.rx := rfl
@[simp] theorem State.setList_tx (s : State) (l : List Entry) : (s.setList l).tx = s.tx := rfl
@[simp] theorem State.setList_session (s : State) (l : List Entry) : (s.setList l).session = s.session := rfl
@[simp] theorem State.setList_tags (s : State) (l : List Entry) : (s.setList l).tags = s.tags := rfl
@[simp] theorem State.setList_nextStamp (s : State) (l : List Entry) :
    (s.setList l).nextStamp = s.nextStamp := rfl
@[simp] theorem State.setList_units (s : State) (l : List Entry) : (s.setList l).units = s.units := rfl
@[simp] theorem State.setList_bus (s : State) (l : List Entry) : (s.setList l).bus = s.bus := rfl
@[simp] theorem State.setList_port (s : State) (l : List Entry) : (s.setList l).port = s.port := rfl
@[simp] theorem State.setList_pass (s : State) (l : List Entry) : (s.setList l).pass = s.pass := rfl
@[simp] theorem State.setList_buffers (s : State) (l : List Entry) : (s.setList l).buffers = s.buffers := rfl
@[simp] theorem State.setList_rate (s : State) (l : List Entry) : (s.setList l).rate = s.rate := rfl
@[simp] theorem State.setList_hold (s : State) (l : List Entry) : (s.setList l).hold = s.hold := rfl
@[simp] theorem State.setList_levels (s : State) (l : List Entry) : (s.setList l).levels = s.levels := rfl
@[simp] theorem State.setList_resetHold (s : State) (l : List Entry) :
    (s.setList l).resetHold = s.resetHold := rfl
@[simp] theorem State.setList_draws (s : State) (l : List Entry) : (s.setList l).draws = s.draws := rfl
@[simp] theorem State.setList_pending (s : State) (l : List Entry) : (s.setList l).pending = s.pending := rfl

/-! ### listEntry -/

@[simp] theorem State.listEntry_rx (s : State) (x : Entry) : (s.listEntry x).rx = s.rx := rfl
@[simp] theorem State.listEntry_tx (s : State) (x : Entry) : (s.listEntry x).tx = s.tx := rfl
@[simp] theorem State.listEntry_session (s : State) (x : Entry) : (s.listEntry x).session = s.session := rfl
@[simp] theorem State.listEntry_tags (s : State) (x : Entry) : (s.listEntry x).tags = s.tags := rfl
@[simp] theorem State.listEntry_nextStamp (s : State) (e : Entry) :
    (s.listEntry e).nextStamp = s.nextStamp := rfl
@[simp] theorem State.listEntry_units (s : State) (x : Entry) : (s.listEntry x).units = s.units := rfl
@[simp] theorem State.listEntry_bus (s : State) (x : Entry) : (s.listEntry x).bus = s.bus := rfl
@[simp] theorem State.listEntry_port (s : State) (x : Entry) : (s.listEntry x).port = s.port := rfl
@[simp] theorem State.listEntry_pass (s : State) (x : Entry) : (s.listEntry x).pass = s.pass := rfl
@[simp] theorem State.listEntry_buffers (s : State) (x : Entry) : (s.listEntry x).buffers = s.buffers := rfl
@[simp] theorem State.listEntry_rate (s : State) (x : Entry) : (s.listEntry x).rate = s.rate := rfl
@[simp] theorem State.listEntry_hold (s : State) (x : Entry) : (s.listEntry x).hold = s.hold := rfl
@[simp] theorem State.listEntry_levels (s : State) (x : Entry) : (s.listEntry x).levels = s.levels := rfl
@[simp] theorem State.listEntry_resetHold (s : State) (e : Entry) :
    (s.listEntry e).resetHold = s.resetHold := rfl
@[simp] theorem State.listEntry_draws (s : State) (x : Entry) : (s.listEntry x).draws = s.draws := rfl
@[simp] theorem State.listEntry_pending (s : State) (x : Entry) : (s.listEntry x).pending = s.pending := rfl

/-! ### withLevels -/

@[simp] theorem State.withLevels_rx (s : State) (lv : Levels) : (s.withLevels lv).rx = s.rx := rfl
@[simp] theorem State.withLevels_list (s : State) (lv : Levels) : (s.withLevels lv).list = s.list := rfl
@[simp] theorem State.withLevels_tx (s : State) (lv : Levels) : (s.withLevels lv).tx = s.tx := rfl
@[simp] theorem State.withLevels_stall (s : State) (lv : Levels) : (s.withLevels lv).stall = s.stall := rfl
@[simp] theorem State.withLevels_session (s : State) (lv : Levels) :
    (s.withLevels lv).session = s.session := rfl
@[simp] theorem State.withLevels_tags (s : State) (lv : Levels) : (s.withLevels lv).tags = s.tags := rfl
@[simp] theorem State.withLevels_nextStamp (s : State) (lv : Levels) :
    (s.withLevels lv).nextStamp = s.nextStamp := rfl
@[simp] theorem State.withLevels_units (s : State) (lv : Levels) : (s.withLevels lv).units = s.units := rfl
@[simp] theorem State.withLevels_bus (s : State) (lv : Levels) : (s.withLevels lv).bus = s.bus := rfl
@[simp] theorem State.withLevels_port (s : State) (lv : Levels) : (s.withLevels lv).port = s.port := rfl
@[simp] theorem State.withLevels_pass (s : State) (lv : Levels) : (s.withLevels lv).pass = s.pass := rfl
@[simp] theorem State.withLevels_buffers (s : State) (lv : Levels) :
    (s.withLevels lv).buffers = s.buffers := rfl
@[simp] theorem State.withLevels_rate (s : State) (lv : Levels) : (s.withLevels lv).rate = s.rate := rfl
@[simp] theorem State.withLevels_hold (s : State) (lv : Levels) : (s.withLevels lv).hold = s.hold := rfl
@[simp] theorem State.withLevels_resetHold (s : State) (lv : Levels) :
    (s.withLevels lv).resetHold = s.resetHold := rfl
@[simp] theorem State.withLevels_draws (s : State) (lv : Levels) : (s.withLevels lv).draws = s.draws := rfl
@[simp] theorem State.withLevels_pending (s : State) (lv : Levels) :
    (s.withLevels lv).pending = s.pending := rfl

/-! ### receive -/

@[simp] theorem State.receive_list (s : State) (ph : RxPhase) : (s.receive ph).list = s.list := rfl
@[simp] theorem State.receive_tx (s : State) (ph : RxPhase) : (s.receive ph).tx = s.tx := rfl
@[simp] theorem State.receive_stall (s : State) (ph : RxPhase) : (s.receive ph).stall = s.stall := rfl
@[simp] theorem State.receive_session (s : State) (ph : RxPhase) : (s.receive ph).session = s.session := rfl
@[simp] theorem State.receive_tags (s : State) (ph : RxPhase) : (s.receive ph).tags = s.tags := rfl
@[simp] theorem State.receive_nextStamp (s : State) (ph : RxPhase) :
    (s.receive ph).nextStamp = s.nextStamp := rfl
@[simp] theorem State.receive_units (s : State) (ph : RxPhase) : (s.receive ph).units = s.units := rfl
@[simp] theorem State.receive_bus (s : State) (ph : RxPhase) : (s.receive ph).bus = s.bus := rfl
@[simp] theorem State.receive_port (s : State) (ph : RxPhase) : (s.receive ph).port = s.port := rfl
@[simp] theorem State.receive_pass (s : State) (ph : RxPhase) : (s.receive ph).pass = s.pass := rfl
@[simp] theorem State.receive_buffers (s : State) (ph : RxPhase) : (s.receive ph).buffers = s.buffers := rfl
@[simp] theorem State.receive_rate (s : State) (ph : RxPhase) : (s.receive ph).rate = s.rate := rfl
@[simp] theorem State.receive_hold (s : State) (ph : RxPhase) : (s.receive ph).hold = s.hold := rfl
@[simp] theorem State.receive_levels (s : State) (ph : RxPhase) : (s.receive ph).levels = s.levels := rfl
@[simp] theorem State.receive_resetHold (s : State) (ph : RxPhase) :
    (s.receive ph).resetHold = s.resetHold := rfl
@[simp] theorem State.receive_draws (s : State) (ph : RxPhase) : (s.receive ph).draws = s.draws := rfl
@[simp] theorem State.receive_pending (s : State) (ph : RxPhase) : (s.receive ph).pending = s.pending := rfl

/-! ### holdBus -/

@[simp] theorem State.holdBus_rx (s : State) (d : Drive) (k : HoldKind) : (s.holdBus d k).rx = s.rx := rfl
@[simp] theorem State.holdBus_list (s : State) (d : Drive) (k : HoldKind) :
    (s.holdBus d k).list = s.list := rfl
@[simp] theorem State.holdBus_tx (s : State) (d : Drive) (k : HoldKind) : (s.holdBus d k).tx = s.tx := rfl
@[simp] theorem State.holdBus_stall (s : State) (d : Drive) (k : HoldKind) :
    (s.holdBus d k).stall = s.stall := rfl
@[simp] theorem State.holdBus_session (s : State) (d : Drive) (k : HoldKind) :
    (s.holdBus d k).session = s.session := rfl
@[simp] theorem State.holdBus_tags (s : State) (d : Drive) (k : HoldKind) :
    (s.holdBus d k).tags = s.tags := rfl
@[simp] theorem State.holdBus_nextStamp (s : State) (d : Drive) (k : HoldKind) :
    (s.holdBus d k).nextStamp = s.nextStamp := rfl
@[simp] theorem State.holdBus_units (s : State) (d : Drive) (k : HoldKind) :
    (s.holdBus d k).units = s.units := rfl
@[simp] theorem State.holdBus_pass (s : State) (d : Drive) (k : HoldKind) :
    (s.holdBus d k).pass = s.pass := rfl
@[simp] theorem State.holdBus_buffers (s : State) (d : Drive) (k : HoldKind) :
    (s.holdBus d k).buffers = s.buffers := rfl
@[simp] theorem State.holdBus_rate (s : State) (d : Drive) (k : HoldKind) :
    (s.holdBus d k).rate = s.rate := rfl
@[simp] theorem State.holdBus_hold (s : State) (d : Drive) (k : HoldKind) :
    (s.holdBus d k).hold = s.hold := rfl
@[simp] theorem State.holdBus_levels (s : State) (d : Drive) (k : HoldKind) :
    (s.holdBus d k).levels = s.levels := rfl
@[simp] theorem State.holdBus_resetHold (s : State) (d : Drive) (k : HoldKind) :
    (s.holdBus d k).resetHold = s.resetHold := rfl
@[simp] theorem State.holdBus_draws (s : State) (d : Drive) (k : HoldKind) :
    (s.holdBus d k).draws = s.draws := rfl
@[simp] theorem State.holdBus_pending (s : State) (d : Drive) (k : HoldKind) :
    (s.holdBus d k).pending = s.pending := rfl

/-! ### releaseBus -/

@[simp] theorem State.releaseBus_rx (s : State) : (s.releaseBus).rx = s.rx := rfl
@[simp] theorem State.releaseBus_list (s : State) : (s.releaseBus).list = s.list := rfl
@[simp] theorem State.releaseBus_tx (s : State) : (s.releaseBus).tx = s.tx := rfl
@[simp] theorem State.releaseBus_stall (s : State) : (s.releaseBus).stall = s.stall := rfl
@[simp] theorem State.releaseBus_session (s : State) : (s.releaseBus).session = s.session := rfl
@[simp] theorem State.releaseBus_tags (s : State) : (s.releaseBus).tags = s.tags := rfl
@[simp] theorem State.releaseBus_nextStamp (s : State) : (s.releaseBus).nextStamp = s.nextStamp := rfl
@[simp] theorem State.releaseBus_units (s : State) : (s.releaseBus).units = s.units := rfl
@[simp] theorem State.releaseBus_pass (s : State) : (s.releaseBus).pass = s.pass := rfl
@[simp] theorem State.releaseBus_buffers (s : State) : (s.releaseBus).buffers = s.buffers := rfl
@[simp] theorem State.releaseBus_rate (s : State) : (s.releaseBus).rate = s.rate := rfl
@[simp] theorem State.releaseBus_hold (s : State) : (s.releaseBus).hold = s.hold := rfl
@[simp] theorem State.releaseBus_levels (s : State) : (s.releaseBus).levels = s.levels := rfl
@[simp] theorem State.releaseBus_resetHold (s : State) : (s.releaseBus).resetHold = s.resetHold := rfl
@[simp] theorem State.releaseBus_draws (s : State) : (s.releaseBus).draws = s.draws := rfl
@[simp] theorem State.releaseBus_pending (s : State) : (s.releaseBus).pending = s.pending := rfl

/-! ### setDir -/

@[simp] theorem State.setDir_rx (s : State) (x : Direction) : (s.setDir x).rx = s.rx := rfl
@[simp] theorem State.setDir_list (s : State) (x : Direction) : (s.setDir x).list = s.list := rfl
@[simp] theorem State.setDir_tx (s : State) (x : Direction) : (s.setDir x).tx = s.tx := rfl
@[simp] theorem State.setDir_stall (s : State) (x : Direction) : (s.setDir x).stall = s.stall := rfl
@[simp] theorem State.setDir_session (s : State) (x : Direction) : (s.setDir x).session = s.session := rfl
@[simp] theorem State.setDir_tags (s : State) (x : Direction) : (s.setDir x).tags = s.tags := rfl
@[simp] theorem State.setDir_nextStamp (s : State) (x : Direction) :
    (s.setDir x).nextStamp = s.nextStamp := rfl
@[simp] theorem State.setDir_units (s : State) (x : Direction) : (s.setDir x).units = s.units := rfl
@[simp] theorem State.setDir_bus (s : State) (x : Direction) : (s.setDir x).bus = s.bus := rfl
@[simp] theorem State.setDir_pass (s : State) (x : Direction) : (s.setDir x).pass = s.pass := rfl
@[simp] theorem State.setDir_buffers (s : State) (x : Direction) : (s.setDir x).buffers = s.buffers := rfl
@[simp] theorem State.setDir_rate (s : State) (x : Direction) : (s.setDir x).rate = s.rate := rfl
@[simp] theorem State.setDir_hold (s : State) (x : Direction) : (s.setDir x).hold = s.hold := rfl
@[simp] theorem State.setDir_levels (s : State) (x : Direction) : (s.setDir x).levels = s.levels := rfl
@[simp] theorem State.setDir_resetHold (s : State) (x : Direction) :
    (s.setDir x).resetHold = s.resetHold := rfl
@[simp] theorem State.setDir_draws (s : State) (x : Direction) : (s.setDir x).draws = s.draws := rfl
@[simp] theorem State.setDir_pending (s : State) (x : Direction) : (s.setDir x).pending = s.pending := rfl

/-! ### openGate -/

@[simp] theorem State.openGate_rx (s : State) (d : Drive) (track : Nat) (r : List Byte) :
    (s.openGate d track r).rx = s.rx := rfl
@[simp] theorem State.openGate_list (s : State) (d : Drive) (track : Nat) (r : List Byte) :
    (s.openGate d track r).list = s.list := rfl
@[simp] theorem State.openGate_tx (s : State) (d : Drive) (track : Nat) (r : List Byte) :
    (s.openGate d track r).tx = s.tx := rfl
@[simp] theorem State.openGate_stall (s : State) (d : Drive) (track : Nat) (r : List Byte) :
    (s.openGate d track r).stall = s.stall := rfl
@[simp] theorem State.openGate_session (s : State) (d : Drive) (track : Nat) (r : List Byte) :
    (s.openGate d track r).session = s.session := rfl
@[simp] theorem State.openGate_tags (s : State) (d : Drive) (track : Nat) (r : List Byte) :
    (s.openGate d track r).tags = s.tags := rfl
@[simp] theorem State.openGate_nextStamp (s : State) (d : Drive) (track : Nat) (r : List Byte) :
    (s.openGate d track r).nextStamp = s.nextStamp := rfl
@[simp] theorem State.openGate_units (s : State) (d : Drive) (track : Nat) (r : List Byte) :
    (s.openGate d track r).units = s.units := rfl
@[simp] theorem State.openGate_bus (s : State) (d : Drive) (track : Nat) (r : List Byte) :
    (s.openGate d track r).bus = s.bus := rfl
@[simp] theorem State.openGate_pass (s : State) (d : Drive) (track : Nat) (r : List Byte) :
    (s.openGate d track r).pass = s.pass := rfl
@[simp] theorem State.openGate_buffers (s : State) (d : Drive) (track : Nat) (r : List Byte) :
    (s.openGate d track r).buffers = s.buffers := rfl
@[simp] theorem State.openGate_rate (s : State) (d : Drive) (track : Nat) (r : List Byte) :
    (s.openGate d track r).rate = s.rate := rfl
@[simp] theorem State.openGate_hold (s : State) (d : Drive) (track : Nat) (r : List Byte) :
    (s.openGate d track r).hold = s.hold := rfl
@[simp] theorem State.openGate_levels (s : State) (d : Drive) (track : Nat) (r : List Byte) :
    (s.openGate d track r).levels = s.levels := rfl
@[simp] theorem State.openGate_resetHold (s : State) (d : Drive) (track : Nat) (r : List Byte) :
    (s.openGate d track r).resetHold = s.resetHold := rfl
@[simp] theorem State.openGate_draws (s : State) (d : Drive) (track : Nat) (r : List Byte) :
    (s.openGate d track r).draws = s.draws := rfl
@[simp] theorem State.openGate_pending (s : State) (d : Drive) (track : Nat) (r : List Byte) :
    (s.openGate d track r).pending = s.pending := rfl

/-! ### closeGate -/

@[simp] theorem State.closeGate_rx (s : State) : (s.closeGate).rx = s.rx := rfl
@[simp] theorem State.closeGate_list (s : State) : (s.closeGate).list = s.list := rfl
@[simp] theorem State.closeGate_tx (s : State) : (s.closeGate).tx = s.tx := rfl
@[simp] theorem State.closeGate_stall (s : State) : (s.closeGate).stall = s.stall := rfl
@[simp] theorem State.closeGate_session (s : State) : (s.closeGate).session = s.session := rfl
@[simp] theorem State.closeGate_tags (s : State) : (s.closeGate).tags = s.tags := rfl
@[simp] theorem State.closeGate_nextStamp (s : State) : (s.closeGate).nextStamp = s.nextStamp := rfl
@[simp] theorem State.closeGate_units (s : State) : (s.closeGate).units = s.units := rfl
@[simp] theorem State.closeGate_bus (s : State) : (s.closeGate).bus = s.bus := rfl
@[simp] theorem State.closeGate_pass (s : State) : (s.closeGate).pass = s.pass := rfl
@[simp] theorem State.closeGate_buffers (s : State) : (s.closeGate).buffers = s.buffers := rfl
@[simp] theorem State.closeGate_rate (s : State) : (s.closeGate).rate = s.rate := rfl
@[simp] theorem State.closeGate_hold (s : State) : (s.closeGate).hold = s.hold := rfl
@[simp] theorem State.closeGate_levels (s : State) : (s.closeGate).levels = s.levels := rfl
@[simp] theorem State.closeGate_resetHold (s : State) : (s.closeGate).resetHold = s.resetHold := rfl
@[simp] theorem State.closeGate_draws (s : State) : (s.closeGate).draws = s.draws := rfl
@[simp] theorem State.closeGate_pending (s : State) : (s.closeGate).pending = s.pending := rfl

/-! ### What the updates write -/

@[simp] theorem State.setList_list (s : State) (l : List Entry) : (s.setList l).list = l := rfl
@[simp] theorem State.setList_stall (s : State) (l : List Entry) :
    (s.setList l).stall = decide (4 ≤ noticeCount l) := rfl
@[simp] theorem State.listEntry_list (s : State) (e : Entry) :
    (s.listEntry e).list = s.list ++ [e] := rfl
@[simp] theorem State.listEntry_stall (s : State) (e : Entry) :
    (s.listEntry e).stall = decide (4 ≤ noticeCount (s.list ++ [e])) := rfl
@[simp] theorem State.withLevels_levels (s : State) (lv : Levels) : (s.withLevels lv).levels = lv := rfl
@[simp] theorem State.receive_phase (s : State) (ph : RxPhase) : (s.receive ph).rx.phase = ph := rfl
@[simp] theorem State.holdBus_bus (s : State) (d : Drive) (k : HoldKind) :
    (s.holdBus d k).bus = ⟨some ⟨d, k⟩, s.bus.reservation, some d⟩ := rfl
@[simp] theorem State.holdBus_port (s : State) (d : Drive) (k : HoldKind) :
    (s.holdBus d k).port = { s.port with sel := selectLines d } := rfl
@[simp] theorem State.releaseBus_bus (s : State) :
    s.releaseBus.bus = ⟨none, s.bus.reservation, s.bus.alternation⟩ := rfl
@[simp] theorem State.releaseBus_port (s : State) :
    s.releaseBus.port =
      { s.port with sel := ⟨false, false⟩, wgate := false, comp := false, wdata := [] } := rfl
@[simp] theorem State.setDir_port (s : State) (x : Direction) :
    (s.setDir x).port = { s.port with dir := x } := rfl
@[simp] theorem State.openGate_port (s : State) (d : Drive) (track : Nat) (r : List Byte) :
    (s.openGate d track r).port = { s.port with
      wgate := true, comp := decide ((s.geometry d).compTrack ≤ track), wdata := mediaBits r } := rfl
@[simp] theorem State.closeGate_port (s : State) :
    s.closeGate.port = { s.port with wgate := false, comp := false, wdata := [] } := rfl

/-! ### Drives -/

theorem State.drive_congr {s t : State} (h : t.units = s.units) (d : Drive) : t.drive d = s.drive d := by
  rw [State.drive, State.drive, h]

@[simp] theorem State.drive_setDrive (s : State) (d : Drive) (u : DriveUnit) :
    (s.setDrive d u).drive d = u := Pair.get_set _ _ _

@[simp] theorem State.drive_setDrive_other (s : State) (d : Drive) (u : DriveUnit) :
    (s.setDrive d u).drive d.other = s.drive d.other := Pair.get_set_other _ _ _

theorem State.drive_setDrive_ne (s : State) {d e : Drive} (h : e ≠ d) (u : DriveUnit) :
    (s.setDrive d u).drive e = s.drive e := Pair.get_set_ne _ h _

@[simp] theorem State.drive_setQueue (s : State) (d : Drive) (x : List TagNo) :
    (s.setQueue d x).drive d = { s.drive d with queue := x } := Pair.get_set _ _ _
@[simp] theorem State.drive_setQueue_other (s : State) (d : Drive) (x : List TagNo) :
    (s.setQueue d x).drive d.other = s.drive d.other := Pair.get_set_other _ _ _

@[simp] theorem State.drive_setSweep (s : State) (d : Drive) (x : Direction) :
    (s.setSweep d x).drive d = { s.drive d with sweep := x } := Pair.get_set _ _ _
@[simp] theorem State.drive_setSweep_other (s : State) (d : Drive) (x : Direction) :
    (s.setSweep d x).drive d.other = s.drive d.other := Pair.get_set_other _ _ _

@[simp] theorem State.drive_setSpindle (s : State) (d : Drive) (x : Spindle) :
    (s.setSpindle d x).drive d = { s.drive d with spindle := x } := Pair.get_set _ _ _
@[simp] theorem State.drive_setSpindle_other (s : State) (d : Drive) (x : Spindle) :
    (s.setSpindle d x).drive d.other = s.drive d.other := Pair.get_set_other _ _ _

@[simp] theorem State.drive_setHead (s : State) (d : Drive) (x : Head) :
    (s.setHead d x).drive d = { s.drive d with head := x } := Pair.get_set _ _ _
@[simp] theorem State.drive_setHead_other (s : State) (d : Drive) (x : Head) :
    (s.setHead d x).drive d.other = s.drive d.other := Pair.get_set_other _ _ _

@[simp] theorem State.drive_setStats (s : State) (d : Drive) (x : Stats) :
    (s.setStats d x).drive d = { s.drive d with stats := x } := Pair.get_set _ _ _
@[simp] theorem State.drive_setStats_other (s : State) (d : Drive) (x : Stats) :
    (s.setStats d x).drive d.other = s.drive d.other := Pair.get_set_other _ _ _

/-! ### The drives and the geometry under the other updates -/

@[simp] theorem State.drive_setTag (s : State) (t : TagNo) (x : TagState) (e : Drive) :
    (s.setTag t x).drive e = s.drive e := rfl
@[simp] theorem State.drive_mapTags (s : State) (f : TagNo → TagState → TagState) (e : Drive) :
    (s.mapTags f).drive e = s.drive e := rfl
@[simp] theorem State.drive_setBuffer (s : State) (b : BufNo) (x : Buffer) (e : Drive) :
    (s.setBuffer b x).drive e = s.drive e := rfl
@[simp] theorem State.drive_mapBuffers (s : State) (f : BufNo → Buffer → Buffer) (e : Drive) :
    (s.mapBuffers f).drive e = s.drive e := rfl
@[simp] theorem State.drive_bindBuffer (s : State) (b : BufNo) (x : Binding) (e : Drive) :
    (s.bindBuffer b x).drive e = s.drive e := rfl
@[simp] theorem State.drive_fillBuffer (s : State) (b : BufNo) (x : Block) (e : Drive) :
    (s.fillBuffer b x).drive e = s.drive e := rfl
@[simp] theorem State.drive_setList (s : State) (l : List Entry) (e : Drive) :
    (s.setList l).drive e = s.drive e := rfl
@[simp] theorem State.drive_listEntry (s : State) (x : Entry) (e : Drive) :
    (s.listEntry x).drive e = s.drive e := rfl
@[simp] theorem State.drive_withLevels (s : State) (lv : Levels) (e : Drive) :
    (s.withLevels lv).drive e = s.drive e := rfl
@[simp] theorem State.drive_receive (s : State) (ph : RxPhase) (e : Drive) :
    (s.receive ph).drive e = s.drive e := rfl
@[simp] theorem State.drive_holdBus (s : State) (d : Drive) (k : HoldKind) (e : Drive) :
    (s.holdBus d k).drive e = s.drive e := rfl
@[simp] theorem State.drive_releaseBus (s : State) (e : Drive) : (s.releaseBus).drive e = s.drive e := rfl
@[simp] theorem State.drive_setDir (s : State) (x : Direction) (e : Drive) :
    (s.setDir x).drive e = s.drive e := rfl
@[simp] theorem State.drive_openGate (s : State) (d : Drive) (track : Nat) (r : List Byte) (e : Drive) :
    (s.openGate d track r).drive e = s.drive e := rfl
@[simp] theorem State.drive_closeGate (s : State) (e : Drive) : (s.closeGate).drive e = s.drive e := rfl

@[simp] theorem State.tag_setTag (s : State) (t : TagNo) (x : TagState) : (s.setTag t x).tag t = x := by
  simp [State.tag, State.setTag]

theorem State.tag_setTag_ne (s : State) {t u : TagNo} (h : u ≠ t) (x : TagState) :
    (s.setTag t x).tag u = s.tag u := by
  have h' : ¬ t.val = u.val := fun e => h (Fin.ext e.symm)
  simp [State.tag, State.setTag, h']

theorem State.tag_setTag_eq (s : State) (t u : TagNo) (x : TagState) :
    (s.setTag t x).tag u = if u = t then x else s.tag u := by
  split
  · next h => rw [h, State.tag_setTag]
  · next h => exact State.tag_setTag_ne s h x

@[simp] theorem State.tag_mapTags (s : State) (f : TagNo → TagState → TagState) (t : TagNo) :
    (s.mapTags f).tag t = f t (s.tag t) := by
  simp [State.tag, State.mapTags]

@[simp] theorem State.buffer_setBuffer (s : State) (b : BufNo) (x : Buffer) :
    (s.setBuffer b x).buffer b = x := by
  simp [State.buffer, State.setBuffer]

theorem State.buffer_setBuffer_ne (s : State) {b c : BufNo} (h : c ≠ b) (x : Buffer) :
    (s.setBuffer b x).buffer c = s.buffer c := by
  have h' : ¬ b.val = c.val := fun e => h (Fin.ext e.symm)
  simp [State.buffer, State.setBuffer, h']

theorem State.buffer_setBuffer_eq (s : State) (b c : BufNo) (x : Buffer) :
    (s.setBuffer b x).buffer c = if c = b then x else s.buffer c := by
  split
  · next h => rw [h, State.buffer_setBuffer]
  · next h => exact State.buffer_setBuffer_ne s h x

@[simp] theorem State.buffer_mapBuffers (s : State) (f : BufNo → Buffer → Buffer) (b : BufNo) :
    (s.mapBuffers f).buffer b = f b (s.buffer b) := by
  simp [State.buffer, State.mapBuffers]

theorem State.buffer_bindBuffer_eq (s : State) (b c : BufNo) (x : Binding) :
    (s.bindBuffer b x).buffer c = if c = b then ⟨x, (s.buffer c).contents⟩ else s.buffer c := by
  rw [State.bindBuffer, State.buffer_setBuffer_eq]
  split
  · next h => rw [h]
  · rfl

theorem State.buffer_fillBuffer_eq (s : State) (b c : BufNo) (x : Block) :
    (s.fillBuffer b x).buffer c = if c = b then ⟨(s.buffer c).binding, x⟩ else s.buffer c := by
  rw [State.fillBuffer, State.buffer_setBuffer_eq]
  split
  · next h => rw [h]
  · rfl

/-! ### Every tag under the other updates -/

@[simp] theorem State.tag_setDrive (s : State) (d : Drive) (x : DriveUnit) (u : TagNo) :
    (s.setDrive d x).tag u = s.tag u := rfl
@[simp] theorem State.tag_setQueue (s : State) (d : Drive) (q : List TagNo) (u : TagNo) :
    (s.setQueue d q).tag u = s.tag u := rfl
@[simp] theorem State.tag_setSweep (s : State) (d : Drive) (x : Direction) (u : TagNo) :
    (s.setSweep d x).tag u = s.tag u := rfl
@[simp] theorem State.tag_setSpindle (s : State) (d : Drive) (x : Spindle) (u : TagNo) :
    (s.setSpindle d x).tag u = s.tag u := rfl
@[simp] theorem State.tag_setHead (s : State) (d : Drive) (x : Head) (u : TagNo) :
    (s.setHead d x).tag u = s.tag u := rfl
@[simp] theorem State.tag_setStats (s : State) (d : Drive) (x : Stats) (u : TagNo) :
    (s.setStats d x).tag u = s.tag u := rfl
@[simp] theorem State.tag_setBuffer (s : State) (b : BufNo) (x : Buffer) (u : TagNo) :
    (s.setBuffer b x).tag u = s.tag u := rfl
@[simp] theorem State.tag_mapBuffers (s : State) (f : BufNo → Buffer → Buffer) (u : TagNo) :
    (s.mapBuffers f).tag u = s.tag u := rfl
@[simp] theorem State.tag_bindBuffer (s : State) (b : BufNo) (x : Binding) (u : TagNo) :
    (s.bindBuffer b x).tag u = s.tag u := rfl
@[simp] theorem State.tag_fillBuffer (s : State) (b : BufNo) (x : Block) (u : TagNo) :
    (s.fillBuffer b x).tag u = s.tag u := rfl
@[simp] theorem State.tag_setList (s : State) (l : List Entry) (u : TagNo) :
    (s.setList l).tag u = s.tag u := rfl
@[simp] theorem State.tag_listEntry (s : State) (e : Entry) (u : TagNo) :
    (s.listEntry e).tag u = s.tag u := rfl
@[simp] theorem State.tag_withLevels (s : State) (lv : Levels) (u : TagNo) :
    (s.withLevels lv).tag u = s.tag u := rfl
@[simp] theorem State.tag_receive (s : State) (ph : RxPhase) (u : TagNo) :
    (s.receive ph).tag u = s.tag u := rfl
@[simp] theorem State.tag_holdBus (s : State) (d : Drive) (k : HoldKind) (u : TagNo) :
    (s.holdBus d k).tag u = s.tag u := rfl
@[simp] theorem State.tag_releaseBus (s : State) (u : TagNo) : (s.releaseBus).tag u = s.tag u := rfl
@[simp] theorem State.tag_setDir (s : State) (x : Direction) (u : TagNo) : (s.setDir x).tag u = s.tag u := rfl
@[simp] theorem State.tag_openGate (s : State) (d : Drive) (track : Nat) (r : List Byte) (u : TagNo) :
    (s.openGate d track r).tag u = s.tag u := rfl
@[simp] theorem State.tag_closeGate (s : State) (u : TagNo) : (s.closeGate).tag u = s.tag u := rfl

/-! ### Every buffer under the other updates -/

@[simp] theorem State.buffer_setDrive (s : State) (d : Drive) (u : DriveUnit) (c : BufNo) :
    (s.setDrive d u).buffer c = s.buffer c := rfl
@[simp] theorem State.buffer_setQueue (s : State) (d : Drive) (q : List TagNo) (c : BufNo) :
    (s.setQueue d q).buffer c = s.buffer c := rfl
@[simp] theorem State.buffer_setSweep (s : State) (d : Drive) (x : Direction) (c : BufNo) :
    (s.setSweep d x).buffer c = s.buffer c := rfl
@[simp] theorem State.buffer_setSpindle (s : State) (d : Drive) (x : Spindle) (c : BufNo) :
    (s.setSpindle d x).buffer c = s.buffer c := rfl
@[simp] theorem State.buffer_setHead (s : State) (d : Drive) (x : Head) (c : BufNo) :
    (s.setHead d x).buffer c = s.buffer c := rfl
@[simp] theorem State.buffer_setStats (s : State) (d : Drive) (x : Stats) (c : BufNo) :
    (s.setStats d x).buffer c = s.buffer c := rfl
@[simp] theorem State.buffer_setTag (s : State) (t : TagNo) (x : TagState) (c : BufNo) :
    (s.setTag t x).buffer c = s.buffer c := rfl
@[simp] theorem State.buffer_mapTags (s : State) (f : TagNo → TagState → TagState) (c : BufNo) :
    (s.mapTags f).buffer c = s.buffer c := rfl
@[simp] theorem State.buffer_setList (s : State) (l : List Entry) (c : BufNo) :
    (s.setList l).buffer c = s.buffer c := rfl
@[simp] theorem State.buffer_listEntry (s : State) (e : Entry) (c : BufNo) :
    (s.listEntry e).buffer c = s.buffer c := rfl
@[simp] theorem State.buffer_withLevels (s : State) (lv : Levels) (c : BufNo) :
    (s.withLevels lv).buffer c = s.buffer c := rfl
@[simp] theorem State.buffer_receive (s : State) (ph : RxPhase) (c : BufNo) :
    (s.receive ph).buffer c = s.buffer c := rfl
@[simp] theorem State.buffer_holdBus (s : State) (d : Drive) (k : HoldKind) (c : BufNo) :
    (s.holdBus d k).buffer c = s.buffer c := rfl
@[simp] theorem State.buffer_releaseBus (s : State) (c : BufNo) : (s.releaseBus).buffer c = s.buffer c := rfl
@[simp] theorem State.buffer_setDir (s : State) (x : Direction) (c : BufNo) :
    (s.setDir x).buffer c = s.buffer c := rfl
@[simp] theorem State.buffer_openGate (s : State) (d : Drive) (track : Nat) (r : List Byte) (c : BufNo) :
    (s.openGate d track r).buffer c = s.buffer c := rfl
@[simp] theorem State.buffer_closeGate (s : State) (c : BufNo) : (s.closeGate).buffer c = s.buffer c := rfl

end Sys2Proof.Machine
end

