-- ==== Sys2Proof/Laws/Ops.lean ====
section
/-! SUPPORT. What each shared operation over tags, buffers, the transmit list and the motions does, said
once; a proof cites these and does not unfold the operations. -/

namespace Sys2Proof.Machine

/-! ### Bytes on the line and on the media -/

/-- The transmitter's line bytes are the frame R149 describes. -/
theorem lineBytes_eq_framed (content : List Byte) : lineBytes content = framed content := by
  have h : ∀ b, escapeByte b =
      if b = 0xF9 then [0xF8, 0xD9] else if b = 0xF8 then [0xF8, 0xD8] else [b] := by decide +kernel
  simp [lineBytes, framed, mark, funext h]

@[simp] theorem characters_nil : characters [] = [] := rfl
@[simp] theorem characters_cons (b : Byte) (l : List Byte) :
    characters (b :: l) = character b ++ characters l := rfl

/-- The transmitter's characters are those R147 describes. -/
theorem characters_eq_onLine (bytes : List Byte) : characters bytes = onLine bytes := by
  have h : ∀ b, character b = [.start] ++ (dataOf b).val.map .data ++ [.stop] := by decide +kernel
  rw [characters, onLine, funext h]

/-- The data bits of a byte are received as the byte (R147). -/
@[simp] theorem byteOfData_dataOf (b : Byte) : byteOfData (dataOf b).val = b := by
  revert b
  decide +kernel

@[simp] theorem byteBits_length (b : Byte) : (byteBits b).length = 8 := rfl

/-- A byte sent most significant bit first is read as the same byte (R170). -/
@[simp] theorem byteOfBits_byteBits (b : Byte) : byteOfBits (byteBits b) = b := by
  revert b
  decide +kernel

@[simp] theorem mediaBits_nil : mediaBits [] = [] := rfl
@[simp] theorem mediaBits_cons (b : Byte) (l : List Byte) :
    mediaBits (b :: l) = byteBits b ++ mediaBits l := rfl
@[simp] theorem mediaBits_append (l m : List Byte) :
    mediaBits (l ++ m) = mediaBits l ++ mediaBits m := List.flatMap_append

@[simp] theorem mediaBits_length (l : List Byte) : (mediaBits l).length = 8 * l.length := by
  induction l with
  | nil => rfl
  | cons b l ih => rw [mediaBits_cons, List.length_append, byteBits_length, ih, List.length_cons]; omega

/-- A two-byte field sent high byte first is read as the same field (R165). -/
@[simp] theorem word16Of_hiByte_loByte (w : Word16) : word16Of (hiByte w) (loByte w) = w := by
  apply BitVec.eq_of_getLsbD_eq
  intro i hi
  simp only [word16Of, hiByte, loByte, BitVec.getLsbD_append, BitVec.getLsbD_extractLsb']
  by_cases h : i < 8
  · simp [h]
  · simp [h, show i - 8 < 8 by omega, show 8 + (i - 8) = i by omega]

/-- A byte of a run is read back at its offset, whatever follows the run (R170). -/
theorem byteAt_mediaBits {l : List Byte} {i : Nat} (rest : List Bool) (h : i < l.length) :
    byteAt (mediaBits l ++ rest) i = l[i] := by
  induction l generalizing i with
  | nil => cases h
  | cons b l ih =>
    cases i with
    | zero =>
      rw [byteAt, mediaBits_cons, List.append_assoc, Nat.mul_zero, List.drop_zero,
        List.take_left' (byteBits_length b), byteOfBits_byteBits, List.getElem_cons_zero]
    | succ i =>
      rw [List.getElem_cons_succ, ← ih (Nat.lt_of_succ_lt_succ h), byteAt, byteAt, mediaBits_cons,
        List.append_assoc, Nat.mul_succ, Nat.add_comm, ← List.drop_drop,
        List.drop_left' (byteBits_length b)]

/-- A byte's bits, taken from RDATA, are read as the byte (R170). -/
@[simp] theorem byteAt_byteBits (b : Byte) : byteAt (byteBits b) 0 = b := by
  rw [byteAt, Nat.mul_zero, List.drop_zero, List.take_of_length_le (byteBits_length b).le,
    byteOfBits_byteBits]

/-- The bits of a block, taken from RDATA, are read as the block (R109, R170). -/
theorem rdataBlock_of_mediaBits {data : Bits 2048} {block : Block} (h : data.val = mediaBits block.val) :
    rdataBlock data = block := by
  refine Subtype.ext (List.ext_getElem (by simp [rdataBlock, block.2]) fun i h1 h2 => ?_)
  simp only [rdataBlock, List.getElem_map, List.getElem_range]
  rw [h, ← List.append_nil (mediaBits _), byteAt_mediaBits [] h2]

/-- The bits of a check, taken from RDATA, are read as the check (R104, R170). -/
theorem rdataCheck_of_mediaBits {check : Bits 16} {w : Word16} (h : check.val = mediaBits (word16Bytes w)) :
    rdataCheck check = w := by
  rw [rdataCheck, h, ← List.append_nil (mediaBits _), byteAt_mediaBits [] (Nat.succ_pos _),
    byteAt_mediaBits [] (Nat.lt_succ_self _)]
  exact word16Of_hiByte_loByte w

/-! ### Tags -/

theorem TagState.activeOn_iff {x : TagState} {d : Drive} :
    x.activeOn d = true ↔ ∃ r p ph m, x = .active r p ph m ∧ r.drive = d := by
  cases x <;> simp [TagState.activeOn]

theorem TagState.queuedOn_iff {x : TagState} {d : Drive} :
    x.queuedOn d = true ↔ ∃ r p, x = .queued r p ∧ r.drive = d := by
  cases x <;> simp [TagState.queuedOn]

/-- The ACTIVE request of a drive is on a tag that is ACTIVE for it, the lowest such. -/
theorem State.activeTag_some {s : State} {d : Drive} {t : TagNo} (h : s.activeTag d = some t) :
    (s.tag t).activeOn d = true := by
  simpa using List.find?_some h

theorem State.activeTag_none {s : State} {d : Drive} :
    s.activeTag d = none ↔ ∀ t, (s.tag t).activeOn d = false := by
  simp [State.activeTag, List.find?_eq_none]

theorem State.activeTag_isSome {s : State} {d : Drive} {t : TagNo} (h : (s.tag t).activeOn d = true) :
    ∃ u, s.activeTag d = some u := by
  rcases hu : s.activeTag d with _ | u
  · rw [State.activeTag_none] at hu
    exact absurd h (by rw [hu t]; decide)
  · exact ⟨u, rfl⟩

/-- With one ACTIVE request a drive (R30), the tag that is ACTIVE for it is its active tag. -/
theorem State.activeTag_eq {s : State} {d : Drive} {t : TagNo}
    (one : ∀ u, (s.tag u).activeOn d = true → u = t) (h : (s.tag t).activeOn d = true) :
    s.activeTag d = some t := by
  obtain ⟨u, hu⟩ := State.activeTag_isSome h
  rw [hu, one u (State.activeTag_some hu)]

theorem State.activeTag_congr {s s' : State} (h : s'.tags = s.tags) (d : Drive) :
    s'.activeTag d = s.activeTag d := by
  simp only [State.activeTag, State.tag, h]

/-- A phase is set on an ACTIVE tag alone (R3). -/
theorem State.setPhase_eq (s : State) (t : TagNo) (ph : Phase) :
    s.setPhase t ph = { s with tags := (s.setPhase t ph).tags } := by
  unfold State.setPhase
  split <;> rfl

theorem State.setPhase_active {s : State} {t : TagNo} {r : Request} {p : Nat} {old ph : Phase} {m : Bool}
    (h : s.tag t = .active r p old m) : s.setPhase t ph = s.setTag t (.active r p ph m) := by
  simp only [State.setPhase, h]

theorem State.setPhase_tag_ne {s : State} {t u : TagNo} {ph : Phase} (h : u ≠ t) :
    (s.setPhase t ph).tag u = s.tag u := by
  unfold State.setPhase
  split
  · exact State.tag_setTag_ne s h _
  · rfl

theorem State.onActive_eq (s : State) (t : TagNo) (f : Request → Request) :
    s.onActive t f = { s with tags := (s.onActive t f).tags } := by
  unfold State.onActive
  split <;> rfl

theorem State.onActive_active {s : State} {t : TagNo} {f : Request → Request} {r : Request} {p : Nat}
    {ph : Phase} {m : Bool} (h : s.tag t = .active r p ph m) :
    s.onActive t f = s.setTag t (.active (f r) p ph m) := by
  simp only [State.onActive, h]

theorem State.onActive_tag_ne {s : State} {t u : TagNo} {f : Request → Request} (h : u ≠ t) :
    (s.onActive t f).tag u = s.tag u := by
  unfold State.onActive
  split
  · exact State.tag_setTag_ne s h _
  · rfl

/-! ### Entry to DONE -/

/-- A request reaches its final status (R16): its tag is DONE with the track reached of R171, its REPLY is
at the tail of the list, and nothing else changes. -/
theorem State.finish_spec (s : State) (t : TagNo) (r : Request) (st : Status) :
    (s.finish t r st).tag t = .done r ⟨st, reachedAt r.work st (s.drive r.drive).head.state⟩
    ∧ (∀ u, u ≠ t → (s.finish t r st).tag u = s.tag u)
    ∧ (s.finish t r st).list = s.list ++ [.reply t]
    ∧ (s.finish t r st).stall = decide (4 ≤ noticeCount s.list)
    ∧ s.finish t r st = { s with
        tags := (s.finish t r st).tags, list := s.list ++ [.reply t],
        stall := (s.finish t r st).stall } := by
  refine ⟨State.tag_setTag _ _ _, fun u h => State.tag_setTag_ne _ h _, rfl, ?_, rfl⟩
  have h : noticeCount (s.list ++ [Entry.reply t]) = noticeCount s.list := by
    simp [noticeCount, Entry.isNotice]
  show decide (4 ≤ noticeCount (s.list ++ [Entry.reply t])) = _
  rw [h]

theorem State.finishTag_queued {s : State} {t : TagNo} {r : Request} {p : Nat} {st : Status}
    (h : s.tag t = .queued r p) : s.finishTag t st = s.finish t r st := by
  simp only [State.finishTag, h]

theorem State.finishTag_active {s : State} {t : TagNo} {r : Request} {p : Nat} {ph : Phase} {m : Bool}
    {st : Status} (h : s.tag t = .active r p ph m) : s.finishTag t st = s.finish t r st := by
  simp only [State.finishTag, h]

/-- A request ended by its drive's failure (R17): ABORTED under the abort-pending mark (R22). -/
theorem State.failTag_active {s : State} {t : TagNo} {r : Request} {p : Nat} {ph : Phase} {m : Bool}
    {st : Status} (h : s.tag t = .active r p ph m) :
    s.failTag t st = s.finish t r (if m then .aborted else st) := by
  cases m <;> simp [State.failTag, State.finishTag, h]

theorem State.failTag_queued {s : State} {t : TagNo} {r : Request} {p : Nat} {st : Status}
    (h : s.tag t = .queued r p) : s.failTag t st = s.finish t r st := by
  simp only [State.failTag, State.finishTag, h]

/-- A work without a motion of its own reports no track reached (R171). -/
theorem reachedAt_of_pulse {w : Work} (h : w.startingPulse.isSome = true) (st : Status) (x : HeadState) :
    reachedAt w st x = none := by
  cases w <;> simp_all [Work.startingPulse, reachedAt]

/-! ### Buffers -/

@[simp] theorem State.freeBuffer_none (s : State) : s.freeBuffer none = s := rfl

/-- A buffer freed keeps its contents (R129). -/
theorem State.freeBuffer_buffer (s : State) (b : Option BufNo) (c : BufNo) :
    (s.freeBuffer b).buffer c = if b = some c then ⟨.free, (s.buffer c).contents⟩ else s.buffer c := by
  cases b with
  | none => simp
  | some b =>
    rw [State.freeBuffer, State.buffer_bindBuffer_eq]
    simp only [Option.some.injEq, eq_comm]

theorem State.freeBuffer_eq (s : State) (b : Option BufNo) :
    s.freeBuffer b = { s with buffers := (s.freeBuffer b).buffers } := by
  cases b <;> rfl

/-- A tag becomes FREE with its buffer (R131). -/
theorem State.freeTag_spec (s : State) (t : TagNo) :
    (s.freeTag t).tag t = .free ∧ (∀ u, u ≠ t → (s.freeTag t).tag u = s.tag u)
    ∧ (∀ c, (s.freeTag t).buffer c =
        if (s.work? t).bind Work.buffer? = some c then ⟨.free, (s.buffer c).contents⟩ else s.buffer c)
    ∧ s.freeTag t = { s with tags := (s.freeTag t).tags, buffers := (s.freeTag t).buffers } := by
  refine ⟨State.tag_setTag _ _ _, fun u h => ?_, fun c => State.freeBuffer_buffer _ _ _, ?_⟩
  · rw [State.freeTag, State.tag_setTag_ne _ h, State.tag, State.freeBuffer_eq]
    rfl
  · rw [State.freeTag, State.freeBuffer_eq]
    rfl

/-- The buffer an acceptance binds is the lowest-numbered free one (R128). -/
theorem State.lowestFree_some {s : State} {b : BufNo} (h : s.lowestFree = some b) :
    (s.buffer b).binding = .free ∧ ∀ c : BufNo, c < b → (s.buffer c).binding ≠ .free := by
  obtain ⟨hb, as, bs, hl, hn⟩ := List.find?_eq_some_iff_append.mp h
  refine ⟨by simpa using hb, fun c hc => ?_⟩
  have hp : (List.finRange 8).Pairwise (· < ·) := by decide
  have hm : c ∈ List.finRange 8 := List.mem_finRange c
  rw [hl] at hp hm
  rcases List.mem_append.mp hm with hm | hm
  · simpa using hn c hm
  · rcases List.mem_cons.mp hm with hm | hm
    · exact absurd hc (by rw [hm]; exact lt_irrefl _)
    · have hlt := (List.pairwise_cons.mp (List.pairwise_append.mp hp).2.1).1 c hm
      exact absurd hc (lt_asymm hlt)

theorem State.lowestFree_none {s : State} :
    s.lowestFree = none ↔ ∀ b, (s.buffer b).binding ≠ .free := by
  simp [State.lowestFree, List.find?_eq_none]

/-! ### The transmit list -/

@[simp] theorem noticeCount_append (l l' : List Entry) :
    noticeCount (l ++ l') = noticeCount l + noticeCount l' := List.countP_append

theorem raiseNewest_cons_any {e : Entry} {rest : List Entry} (h : rest.any Entry.isNotice = true) :
    raiseNewest (e :: rest) = e :: raiseNewest rest := by
  cases e <;> simp only [raiseNewest, h, if_true]

theorem raiseNewest_cons_last {r : Reason} {k t : Byte} {m : Nat} {rest : List Entry}
    (h : rest.any Entry.isNotice = false) :
    raiseNewest (.notice r k t m :: rest) = .notice r k t (raiseMore m) :: rest := by
  simp only [raiseNewest, h, Bool.false_eq_true, if_false]

/-- The newest NOTICE has its more count raised, and every other entry stays (R137). -/
theorem raiseNewest_split : ∀ {l : List Entry}, 0 < noticeCount l →
    ∃ older newer r k t more, l = older ++ .notice r k t more :: newer
      ∧ newer.all (fun e => !e.isNotice) = true
      ∧ raiseNewest l = older ++ .notice r k t (raiseMore more) :: newer
  | [], h => absurd h (by decide)
  | e :: rest, h => by
    by_cases hr : rest.any Entry.isNotice = true
    · have hc : 0 < noticeCount rest := by
        rw [noticeCount, List.countP_pos_iff]
        simpa [List.any_eq_true] using hr
      obtain ⟨older, newer, r, k, t, more, h1, h2, h3⟩ := raiseNewest_split hc
      refine ⟨e :: older, newer, r, k, t, more, by rw [h1]; rfl, h2, ?_⟩
      rw [raiseNewest_cons_any hr, h3]
      rfl
    · rw [Bool.not_eq_true] at hr
      have hn : rest.all (fun e => !e.isNotice) = true := by
        rw [List.all_eq_not_any_not]
        simpa using hr
      have hc : noticeCount rest = 0 := by
        rw [noticeCount, List.countP_eq_zero]
        intro x hx
        simpa using List.all_eq_true.mp hn x hx
      have he : e.isNotice = true := by
        by_contra hf
        rw [noticeCount, List.countP_cons_of_neg hf, ← noticeCount, hc] at h
        exact absurd h (lt_irrefl _)
      cases e with
      | notice r k t more => exact ⟨[], rest, r, k, t, more, rfl, hn, raiseNewest_cons_last hr⟩
      | reply t => exact absurd he (by simp [Entry.isNotice])
      | event d x => exact absurd he (by simp [Entry.isNotice])
      | started a => exact absurd he (by simp [Entry.isNotice])

theorem raiseMore_eq (n : Nat) : raiseMore n = if n < 255 then n + 1 else n := rfl

/-- A refusal or link fault lists its NOTICE and changes nothing else (R12, R137, R139). -/
theorem State.addNotice_spec (s : State) (r : Reason) (kind tag : Byte) :
    s.Notices (s.addNotice r kind tag) r kind tag := by
  by_cases h : noticeCount s.list < Config.noticeSlots
  · have he : s.addNotice r kind tag = s.listEntry (.notice r kind tag 0) := if_pos h
    rw [he]
    refine ⟨?_, rfl, rfl⟩
    have h5 : noticeCount s.list < 5 := h
    simp only [NoticeAdded, if_pos h5, State.listEntry_list]
  · have he : s.addNotice r kind tag = s.setList (raiseNewest s.list) := if_neg h
    rw [he]
    refine ⟨?_, rfl, rfl⟩
    have h5 : ¬ noticeCount s.list < 5 := h
    simp only [NoticeAdded, if_neg h5, State.setList_list]
    obtain ⟨older, newer, x, k, t, more, h1, h2, h3⟩ :=
      raiseNewest_split (l := s.list) (by omega)
    exact ⟨older, newer, x, k, t, more, h1, h2, h3⟩

/-- A drive event changes the transmit list and STALL alone (R76). -/
theorem State.raiseEvent_eq (s : State) (d : Drive) (ev : DriveEvent) :
    s.raiseEvent d ev = { s with
      list := (s.raiseEvent d ev).list, stall := decide (4 ≤ noticeCount (s.raiseEvent d ev).list) } := by
  unfold State.raiseEvent
  split <;> rfl

/-! ### Motions, reservation and counters -/

/-- A motion whose request has gone (R90). -/
theorem Motion.orphan_eq (m : Option Motion) : m.bind Motion.orphan = motionLeft m := by
  cases m <;> rfl

theorem State.orphanMotion_drive (s : State) (d : Drive) :
    (s.orphanMotion d).drive d = { s.drive d with
      head := { (s.drive d).head with motion := motionLeft (s.drive d).head.motion } } := by
  rw [State.orphanMotion, State.drive_setHead, Motion.orphan_eq]

theorem State.clearReservation_eq (s : State) (d : Drive) :
    s.clearReservation d = { s with bus := { s.bus with
      reservation := if s.bus.reservation = some d then none else s.bus.reservation } } := by
  unfold State.clearReservation
  split <;> rfl

theorem bump_eq (n : Nat) : bump n = raised n := rfl

theorem bump_le {n : Nat} (h : n ≤ 65535) : bump n ≤ 65535 := by
  unfold bump
  split <;> omega

/-! ### Free drives -/

/-- A drive is free when nothing of it is under way (R30). -/
theorem State.isFree_iff (s : State) (d : Drive) :
    s.isFree d = true ↔ (∀ t, (s.tag t).activeOn d = false)
      ∧ (∀ m, (s.drive d).head.motion = some m → m.owner ≠ .detached)
      ∧ ∀ p, s.pass = some p → p.drive = d → p.owner ≠ .detached := by
  simp only [State.isFree, Bool.and_eq_true, Option.isNone_iff_eq_none, State.activeTag_none,
    State.detachedMotion, State.detachedPass, and_assoc]
  refine and_congr_right fun _ => ?_
  rcases (s.drive d).head.motion with _ | m <;> rcases s.pass with _ | p <;>
    simp [← imp_iff_not_or]

theorem State.isTurning_iff (s : State) (d : Drive) :
    s.isTurning d = true ↔ (s.drive d).spindle.condition = .turning := by
  simp [State.isTurning]

end Sys2Proof.Machine
end

