-- ==== Sys2Proof/Laws/PerInstr.lean ====
section
/-! SUPPORT. One family of laws about every command as syntax, and what every command answers. -/

namespace Sys2Proof.Laws

open Sys2Proof.Machine

/-- The frame a frame command is, with its kind code (Table 12-2); the other commands are not frames. -/
def carriedFrame : Instr → Option Frame
  | .openSession session tag body => some ⟨0x01, session, tag, body⟩
  | .define session tag body => some ⟨0x02, session, tag, body⟩
  | .query _ session tag body => some ⟨0x03, session, tag, body⟩
  | .read _ session tag body => some ⟨0x10, session, tag, body⟩
  | .write _ session tag body => some ⟨0x11, session, tag, body⟩
  | .verify _ session tag body => some ⟨0x12, session, tag, body⟩
  | .format _ session tag body => some ⟨0x13, session, tag, body⟩
  | .seek _ session tag body => some ⟨0x14, session, tag, body⟩
  | .recal _ session tag body => some ⟨0x15, session, tag, body⟩
  | .abort _ session tag body => some ⟨0x20, session, tag, body⟩
  | .release session tag body => some ⟨0x21, session, tag, body⟩
  | .resend session tag body => some ⟨0x22, session, tag, body⟩
  | .unknownKind kind session tag body => some ⟨kind, session, tag, body⟩
  | .resetBegin _ | .hardwareReset _ _ | .rxByte _ _ _ | .timeout | .holdAsserted | .holdDeasserted
  | .frameEnd | .indexPulse _ _ _ | .sectorPulse _ _ | .spinUpTimerExpiry _ _
  | .indexWatchdogExpiry _ _ | .runOnTimerExpiry _ | .syncMarkFound | .idComplete _ _
  | .recordComplete _ _ | .writeComplete | .formatSectorComplete | .stepTimerExpiry _ _
  | .settleTimerExpiry _ _ => none

/-- A well-formed frame command is exactly the command of its frame, under the levels it carries, and its
content is within the content limit (R149, R165, Table 12-2). -/
def FrameIsCommand.Statement (i : Instr) : Prop :=
  i.wellFormed = true → ∀ f lv, carriedFrame i = some f →
    f.body.length + 5 ≤ 268 ∧ commandOf (i.levels?.getD lv) f = i

namespace FrameIsCommand

theorem resetBegin (cause : ResetCause) :
    Statement (.resetBegin cause) := fun _ _ _ h => nomatch h

theorem hardwareReset (rate1 rate0 : Bool) :
    Statement (.hardwareReset rate1 rate0) := fun _ _ _ h => nomatch h

theorem rxByte (lv : Levels) (data : Bits 8) (stopBit : Bool) :
    Statement (.rxByte lv data stopBit) := fun _ _ _ h => nomatch h

theorem timeout :
    Statement .timeout := fun _ _ _ h => nomatch h

theorem openSession (session tag : Byte) (body : List Byte) :
    Statement (.openSession session tag body) := by
  intro h f lv hf
  obtain rfl := Option.some.inj hf
  exact ⟨by simpa [Instr.wellFormed, bodyFits, Config.contentLimit] using h, rfl⟩

theorem define (session tag : Byte) (body : List Byte) :
    Statement (.define session tag body) := by
  intro h f lv hf
  obtain rfl := Option.some.inj hf
  exact ⟨by simpa [Instr.wellFormed, bodyFits, Config.contentLimit] using h, rfl⟩

theorem query (lv : Levels) (session tag : Byte) (body : List Byte) :
    Statement (.query lv session tag body) := by
  intro h f lv hf
  obtain rfl := Option.some.inj hf
  exact ⟨by simpa [Instr.wellFormed, bodyFits, Config.contentLimit] using h, rfl⟩

theorem read (lv : Levels) (session tag : Byte) (body : List Byte) :
    Statement (.read lv session tag body) := by
  intro h f lv hf
  obtain rfl := Option.some.inj hf
  exact ⟨by simpa [Instr.wellFormed, bodyFits, Config.contentLimit] using h, rfl⟩

theorem write (lv : Levels) (session tag : Byte) (body : List Byte) :
    Statement (.write lv session tag body) := by
  intro h f lv hf
  obtain rfl := Option.some.inj hf
  exact ⟨by simpa [Instr.wellFormed, bodyFits, Config.contentLimit] using h, rfl⟩

theorem verify (lv : Levels) (session tag : Byte) (body : List Byte) :
    Statement (.verify lv session tag body) := by
  intro h f lv hf
  obtain rfl := Option.some.inj hf
  exact ⟨by simpa [Instr.wellFormed, bodyFits, Config.contentLimit] using h, rfl⟩

theorem format (lv : Levels) (session tag : Byte) (body : List Byte) :
    Statement (.format lv session tag body) := by
  intro h f lv hf
  obtain rfl := Option.some.inj hf
  exact ⟨by simpa [Instr.wellFormed, bodyFits, Config.contentLimit] using h, rfl⟩

theorem seek (lv : Levels) (session tag : Byte) (body : List Byte) :
    Statement (.seek lv session tag body) := by
  intro h f lv hf
  obtain rfl := Option.some.inj hf
  exact ⟨by simpa [Instr.wellFormed, bodyFits, Config.contentLimit] using h, rfl⟩

theorem recal (lv : Levels) (session tag : Byte) (body : List Byte) :
    Statement (.recal lv session tag body) := by
  intro h f lv hf
  obtain rfl := Option.some.inj hf
  exact ⟨by simpa [Instr.wellFormed, bodyFits, Config.contentLimit] using h, rfl⟩

theorem abort (lv : Levels) (session tag : Byte) (body : List Byte) :
    Statement (.abort lv session tag body) := by
  intro h f lv hf
  obtain rfl := Option.some.inj hf
  exact ⟨by simpa [Instr.wellFormed, bodyFits, Config.contentLimit] using h, rfl⟩

theorem release (session tag : Byte) (body : List Byte) :
    Statement (.release session tag body) := by
  intro h f lv hf
  obtain rfl := Option.some.inj hf
  exact ⟨by simpa [Instr.wellFormed, bodyFits, Config.contentLimit] using h, rfl⟩

theorem resend (session tag : Byte) (body : List Byte) :
    Statement (.resend session tag body) := by
  intro h f lv hf
  obtain rfl := Option.some.inj hf
  exact ⟨by simpa [Instr.wellFormed, bodyFits, Config.contentLimit] using h, rfl⟩

theorem unknownKind (kind session tag : Byte) (body : List Byte) :
    Statement (.unknownKind kind session tag body) := by
  intro h f lv hf
  obtain rfl := Option.some.inj hf
  simp only [Instr.wellFormed, bodyFits, Config.contentLimit, Bool.and_eq_true,
    Bool.not_eq_true', knownKinds, List.contains_eq_mem, decide_eq_false_iff_not, List.mem_cons,
    List.not_mem_nil, or_false, not_or] at h
  obtain ⟨hl, h1, h2, h3, h4, h5, h6, h7, h8, h9, h10, h11, h12⟩ := h
  exact ⟨of_decide_eq_true hl, by simp only [commandOf, if_neg h1, if_neg h2, if_neg h3, if_neg h4,
    if_neg h5, if_neg h6, if_neg h7, if_neg h8, if_neg h9, if_neg h10, if_neg h11, if_neg h12]⟩

theorem holdAsserted :
    Statement .holdAsserted := fun _ _ _ h => nomatch h

theorem holdDeasserted :
    Statement .holdDeasserted := fun _ _ _ h => nomatch h

theorem frameEnd :
    Statement .frameEnd := fun _ _ _ h => nomatch h

theorem indexPulse (lv : Levels) (d : Drive) (interval : Word16) :
    Statement (.indexPulse lv d interval) := fun _ _ _ h => nomatch h

theorem sectorPulse (lv : Levels) (d : Drive) :
    Statement (.sectorPulse lv d) := fun _ _ _ h => nomatch h

theorem spinUpTimerExpiry (lv : Levels) (d : Drive) :
    Statement (.spinUpTimerExpiry lv d) := fun _ _ _ h => nomatch h

theorem indexWatchdogExpiry (lv : Levels) (d : Drive) :
    Statement (.indexWatchdogExpiry lv d) := fun _ _ _ h => nomatch h

theorem runOnTimerExpiry (d : Drive) :
    Statement (.runOnTimerExpiry d) := fun _ _ _ h => nomatch h

theorem syncMarkFound :
    Statement .syncMarkFound := fun _ _ _ h => nomatch h

theorem idComplete (track sideSector : Bits 8) : Statement (.idComplete track sideSector) := fun _ _ _ h => nomatch h

theorem recordComplete (data : Bits 2048) (check : Bits 16) : Statement (.recordComplete data check) := fun _ _ _ h => nomatch h

theorem writeComplete :
    Statement .writeComplete := fun _ _ _ h => nomatch h

theorem formatSectorComplete :
    Statement .formatSectorComplete := fun _ _ _ h => nomatch h

theorem stepTimerExpiry (lv : Levels) (d : Drive) :
    Statement (.stepTimerExpiry lv d) := fun _ _ _ h => nomatch h

theorem settleTimerExpiry (lv : Levels) (d : Drive) :
    Statement (.settleTimerExpiry lv d) := fun _ _ _ h => nomatch h

end FrameIsCommand

/-- Every command answers with a next state: the part has no fault and no command is refused. -/
theorem exec_answers (c : Instr) (s : State) : ∃ t, exec c s = .next t := by
  cases c <;> exact ⟨_, rfl⟩

end Sys2Proof.Laws
end

