-- ==== Sys2Proof/Laws/Requests.lean ====
section
/-! SUPPORT. What the acceptance checks answer, the implicit release of a HELD tag, and what the receiver
and the transmitter leave alone. -/

namespace Sys2Proof.Machine

/-! ### The acceptance checks -/

/-- Checks 2 to 5 pass exactly with the body length, an open session, its number and a tag (R6 to R8). -/
theorem checkHeader_ok {s : State} {f : Frame} {n : Nat} {t : TagNo} :
    checkHeader s f n = .ok t ↔ f.body.length = n ∧ s.session ≠ 0 ∧ f.session = s.session
      ∧ f.tag.toNat = t.val := by
  unfold checkHeader
  by_cases h1 : f.body.length = n
  · by_cases h2 : s.session = 0
    · simp [h1, h2]
    · by_cases h3 : f.session = s.session
      · by_cases h4 : f.tag.toNat < 16
        · simp only [h1, ne_eq, not_true_eq_false, h2, h3, h4, if_false, dif_pos, true_and,
            not_false_eq_true, Except.ok.injEq]
          constructor
          · rintro rfl
            rfl
          · intro h
            exact Fin.ext h
        · have hne : ¬ f.tag.toNat = t.val := fun h => h4 (h ▸ t.isLt)
          simp only [h1, h2, h3, h4, hne, ne_eq, not_true_eq_false, if_false, dif_neg, not_false_eq_true,
            reduceCtorEq, and_false]
      · simp only [h1, h2, h3, ne_eq, not_true_eq_false, if_false, if_true, not_false_eq_true,
          reduceCtorEq, false_and, and_false]
  · simp [h1]

/-- Check 6 passes exactly for a FREE or HELD tag (R8). -/
theorem checkTagState_ok {s : State} {t : TagNo} :
    checkTagState s t = .ok () ↔ (s.tag t).busy = false := by
  unfold checkTagState TagState.busy
  cases s.tag t <;> simp

theorem checkTagState_cases (s : State) (t : TagNo) :
    checkTagState s t = .ok () ∨ checkTagState s t = .error .tagBusy := by
  unfold checkTagState
  cases s.tag t <;> simp

/-- Check 7 passes exactly for a drive field 0 or 1 (R9). -/
theorem driveOf_ok {b : Byte} {d : Drive} :
    driveOf b = .ok d ↔ b = 0 ∧ d = .d0 ∨ b = 1 ∧ d = .d1 := by
  unfold driveOf
  by_cases h0 : b = 0
  · subst h0
    simp [eq_comm]
  · by_cases h1 : b = 1
    · subst h1
      simp [eq_comm]
    · simp only [h0, h1, if_false, reduceCtorEq, false_and, or_false]

/-- A flags byte is 0x00 or 0x01 (R166). -/
theorem flagOperand_ok {b : Byte} {v : Bool} :
    flagOperand b = .ok v ↔ b = 0x00 ∧ v = false ∨ b = 0x01 ∧ v = true := by
  unfold flagOperand flagOf
  by_cases h0 : b = 0x00
  · subst h0
    simp [eq_comm]
  · by_cases h1 : b = 0x01
    · subst h1
      simp [eq_comm]
    · simp only [h0, h1, if_false, reduceCtorEq, false_and, or_false]

theorem State.judged_error {α : Type} {s : State} {f : Frame} {check : Except Reason α} {acc : α → State}
    {e : Reason} (h : check = .error e) : s.judged f check acc = s.refuse e f := by
  rw [h, State.judged]

theorem State.judged_ok {α : Type} {s : State} {f : Frame} {check : Except Reason α} {acc : α → State}
    {a : α} (h : check = .ok a) : s.judged f check acc = acc a := by
  rw [h, State.judged]

/-! ### The implicit release -/

/-- A HELD tag becomes FREE with its buffer; any other tag stays (R13). -/
theorem State.releaseHeld_spec (s : State) (t : TagNo) :
    (∀ u, u ≠ t → (s.releaseHeld t).tag u = s.tag u)
    ∧ (s.releaseHeld t).tag t = (match s.tag t with | .held _ _ => .free | x => x)
    ∧ (∀ c, ((s.releaseHeld t).buffer c).contents = (s.buffer c).contents
        ∧ ((s.releaseHeld t).buffer c).binding
            = if (s.tag t).holds c then .free else (s.buffer c).binding)
    ∧ s.releaseHeld t =
        { s with tags := (s.releaseHeld t).tags, buffers := (s.releaseHeld t).buffers } := by
  rcases h : s.tag t with _ | ⟨r, p⟩ | ⟨r, p, ph, m⟩ | ⟨r, x⟩ | ⟨r, x, m⟩ | ⟨r, x⟩
  case held =>
    have he : s.releaseHeld t = s.freeTag t := by simp only [State.releaseHeld, h]
    obtain ⟨h1, h2, h3, h4⟩ := State.freeTag_spec s t
    have hw : (s.work? t).bind Work.buffer? = r.work.buffer? := by
      simp [State.work?, h, TagState.request?]
    rw [he]
    refine ⟨h2, h1, fun c => ?_, h4⟩
    rw [h3, hw]
    by_cases hc : r.work.buffer? = some c <;> simp [hc, TagState.holds]
  all_goals
    have he : s.releaseHeld t = s := by simp only [State.releaseHeld, h]
    rw [he]
    exact ⟨fun u _ => rfl, h, fun c => ⟨rfl, by simp [TagState.holds]⟩, rfl⟩

/-! ### The receiver and the transmitter -/

/-- The inter-byte timer runs exactly in ESCAPE and in GATHER with content (R155). -/
theorem State.receive_inBounds {s : State} {ph : RxPhase}
    (h : ∀ content, ph = .gather content ∨ ph = .escape content → content.length ≤ 268) :
    (s.receive ph).rx.inBounds = true := by
  cases ph with
  | idle => rfl
  | escape content =>
    simp [State.receive, Receiver.inBounds, Config.contentLimit, h content (.inr rfl)]
  | gather content =>
    cases content with
    | nil => rfl
    | cons b rest =>
      have hl := h (b :: rest) (.inl rfl)
      simp only [List.length_cons] at hl
      simp [State.receive, Receiver.inBounds, Config.contentLimit, hl]

theorem State.startSending_eq (s : State) (t : Option TagNo) :
    s.startSending t = { s with tags := (s.startSending t).tags } := by
  unfold State.startSending
  split
  · split <;> rfl
  · rfl

/-- A frame that begins changes the frame on TXD, the list with STALL, and the tag of a REPLY (R140). -/
theorem State.beginFrame_eq (s : State) :
    s.beginFrame = { s with
      tx := s.beginFrame.tx, list := s.beginFrame.list, stall := s.beginFrame.stall,
      tags := s.beginFrame.tags } := by
  unfold State.beginFrame
  split
  · split
    · next e rest _ =>
      rw [State.send, State.startSending_eq]
      rfl
    · rfl
  · rfl

theorem State.unlessHeld_none {s : State} {f : State → State} (h : s.resetHold = none) :
    s.unlessHeld f = f s := if_pos h

theorem State.unlessHeld_some {s : State} {f : State → State} (h : s.resetHold ≠ none) :
    s.unlessHeld f = s := if_neg h

end Sys2Proof.Machine
end

