-- ==== Sys2Proof/Laws/Scheduler.lean ====
section
/-! SUPPORT. What the shared operations of the Scheduler do: the choices, the places in a queue, decisions
in sequence and run-on; and what the work of a happening leaves alone. -/

namespace Sys2Proof.Machine

/-! ### Choices and places -/

@[simp] theorem leastBy_eq_none {cost : TagNo → Nat} {l : List TagNo} :
    leastBy cost l = none ↔ l = [] := by
  cases l with
  | nil => simp [leastBy]
  | cons t rest =>
    rcases h : leastBy cost rest with _ | u
    · simp [leastBy, h]
    · by_cases hc : cost u < cost t <;> simp [leastBy, h, hc]

/-- The first member with the least cost: the oldest among equals (R36). -/
theorem leastBy_some {cost : TagNo → Nat} : ∀ {l : List TagNo} {t : TagNo}, leastBy cost l = some t →
    ∃ older newer, l = older ++ t :: newer ∧ (∀ u ∈ older, cost t < cost u)
      ∧ ∀ u ∈ newer, cost t ≤ cost u
  | [], _, h => nomatch h
  | a :: rest, t, h => by
    rcases hr : leastBy cost rest with _ | u
    · rw [leastBy_eq_none] at hr
      subst hr
      obtain rfl : a = t := by simpa [leastBy] using h
      exact ⟨[], [], rfl, by simp, by simp⟩
    · obtain ⟨older, newer, hl, ho, hn⟩ := leastBy_some hr
      by_cases hc : cost u < cost a
      · obtain rfl : u = t := by simpa [leastBy, hr, hc] using h
        refine ⟨a :: older, newer, by rw [hl]; rfl, fun v hv => ?_, hn⟩
        rcases List.mem_cons.mp hv with rfl | hv
        · exact hc
        · exact ho v hv
      · obtain rfl : a = t := by simpa [leastBy, hr, hc] using h
        refine ⟨[], rest, rfl, by simp, fun v hv => ?_⟩
        rw [hl] at hv
        rcases List.mem_append.mp hv with hv | hv
        · exact (not_lt.mp hc).trans (ho v hv).le
        · rcases List.mem_cons.mp hv with rfl | hv
          · exact not_lt.mp hc
          · exact (not_lt.mp hc).trans (hn v hv)

/-- A tag goes into a queue before the first member with a greater stamp (R27, R43). -/
theorem insertByStamp_spec (stamp : TagNo → Nat) (t : TagNo) : ∀ l : List TagNo,
    ∃ older newer, l = older ++ newer ∧ insertByStamp stamp t l = older ++ t :: newer
      ∧ (∀ u ∈ older, stamp u ≤ stamp t) ∧ ∀ u ∈ newer.head?, stamp t < stamp u
  | [] => ⟨[], [], rfl, rfl, by simp, by simp⟩
  | a :: rest => by
    by_cases h : stamp t < stamp a
    · exact ⟨[], a :: rest, rfl, by simp [insertByStamp, h], by simp, by simpa using h⟩
    · obtain ⟨older, newer, h1, h2, h3, h4⟩ := insertByStamp_spec stamp t rest
      refine ⟨a :: older, newer, by rw [h1]; rfl, by simp [insertByStamp, h, h2], fun u hu => ?_, h4⟩
      rcases List.mem_cons.mp hu with rfl | hu
      · exact not_lt.mp h
      · exact h3 u hu

theorem insertByStamp_perm (stamp : TagNo → Nat) (t : TagNo) (l : List TagNo) :
    (insertByStamp stamp t l).Perm (t :: l) := by
  obtain ⟨older, newer, h1, h2, -, -⟩ := insertByStamp_spec stamp t l
  rw [h2, h1]
  exact List.perm_middle

theorem leastBy_mem {cost : TagNo → Nat} {l : List TagNo} {t : TagNo} (h : leastBy cost l = some t) :
    t ∈ l := by
  obtain ⟨older, newer, rfl, -, -⟩ := leastBy_some h
  simp

/-- A decision chooses a member of the queue (R33). -/
theorem State.choose_mem {s : State} {d : Drive} {c : Choice} (h : s.choose d = some c) :
    c.tag ∈ (s.drive d).queue := by
  unfold State.choose at h
  split at h
  · next t ht =>
    obtain rfl := Option.some.inj h
    unfold State.chooseAging at ht
    split at ht
    · cases ht
    · exact List.mem_of_find?_eq_some ht
  · split at h
    · next k _ =>
      unfold State.chooseAt at h
      split at h
      · next t ht =>
        obtain rfl := Option.some.inj h
        exact List.mem_of_find?_eq_some ht
      · split at h
        · next t ht =>
          obtain rfl := Option.some.inj h
          exact (List.mem_filter.mp (leastBy_mem ht)).1
        · unfold State.chooseSweep at h
          simp only at h
          split at h
          · next t ht =>
            obtain rfl := Option.some.inj h
            exact List.mem_of_find?_eq_some ht
          · split at h
            · next t ht =>
              obtain rfl := Option.some.inj h
              exact (List.mem_filter.mp (leastBy_mem ht)).1
            · obtain ⟨t, ht, rfl⟩ := Option.map_eq_some_iff.mp h
              exact (List.mem_filter.mp (leastBy_mem ht)).1
    · obtain ⟨t, ht, rfl⟩ := Option.map_eq_some_iff.mp h
      exact List.mem_of_head? ht

theorem State.leaveQueue_queue (s : State) (d : Drive) (t : TagNo) :
    ((s.leaveQueue d t).drive d).queue = (s.drive d).queue.filter fun u => u != t := by
  simp [State.leaveQueue]

/-! ### Decisions in sequence -/

/-- A property that every decision of a free TURNING drive with members keeps holds after the decisions of a
happening (R31, R35). -/
theorem State.decisions_induction {P : State → Prop} {d : Drive}
    (keep : ∀ s : State, P s → s.isFree d = true → s.isTurning d = true → (s.drive d).queue ≠ [] →
      P (s.decide1 d)) : ∀ (n : Nat) (s : State), P s → P (s.decisions d n)
  | 0, _, h => h
  | n + 1, s, h => by
    unfold State.decisions
    split
    · next hc =>
      simp only [Bool.and_eq_true, Bool.not_eq_true', List.isEmpty_eq_false_iff] at hc
      exact State.decisions_induction keep n _ (keep s h hc.1.1 hc.1.2 hc.2)
    · exact h

/-- Run-on after a happening: nothing, a timer, or with a run-on value of 0 the stop (R77, R79, R80). -/
theorem State.runOnIfDue_cases (s : State) (d : Drive) :
    s.runOnIfDue d = s
    ∨ (s.isFree d = true ∧ s.isTurning d = true ∧ (s.drive d).queue = []
        ∧ (s.drive d).spindle.runOnTimer = none
        ∧ ((s.geometry d).runOn = 0 ∧ s.runOnIfDue d = s.setSpindle d (.still .stopped .unknown)
          ∨ (s.geometry d).runOn ≠ 0 ∧ s.runOnIfDue d = s.setSpindle d
              { (s.drive d).spindle with runOnTimer := some (1000 * (s.geometry d).runOn) })) := by
  unfold State.runOnIfDue
  split
  · next h =>
    simp only [Bool.and_eq_true, List.isEmpty_iff, Option.isNone_iff_eq_none] at h
    right
    refine ⟨h.1.1.1, h.1.1.2, h.1.2, h.2, ?_⟩
    split
    · next h0 => exact .inl ⟨h0, rfl⟩
    · next h0 => exact .inr ⟨h0, rfl⟩
  · exact .inl rfl

/-! ### What the work of a happening leaves alone -/

/-- The second state differs from the first at most in the tags, the drives, the transmit list with STALL,
the bus and the drive port. -/
structure State.WorkOnly (s t : State) : Prop where
  rx : t.rx = s.rx
  tx : t.tx = s.tx
  session : t.session = s.session
  nextStamp : t.nextStamp = s.nextStamp
  pass : t.pass = s.pass
  buffers : t.buffers = s.buffers
  rate : t.rate = s.rate
  hold : t.hold = s.hold
  levels : t.levels = s.levels
  resetHold : t.resetHold = s.resetHold
  draws : t.draws = s.draws
  pending : t.pending = s.pending

theorem State.WorkOnly.refl (s : State) : s.WorkOnly s :=
  ⟨rfl, rfl, rfl, rfl, rfl, rfl, rfl, rfl, rfl, rfl, rfl, rfl⟩

theorem State.WorkOnly.trans {s t u : State} (h : s.WorkOnly t) (k : t.WorkOnly u) : s.WorkOnly u :=
  ⟨k.rx.trans h.rx, k.tx.trans h.tx, k.session.trans h.session, k.nextStamp.trans h.nextStamp,
    k.pass.trans h.pass, k.buffers.trans h.buffers, k.rate.trans h.rate, k.hold.trans h.hold,
    k.levels.trans h.levels, k.resetHold.trans h.resetHold, k.draws.trans h.draws,
    k.pending.trans h.pending⟩

theorem State.setDrive_workOnly (s : State) (d : Drive) (u : DriveUnit) : s.WorkOnly (s.setDrive d u) :=
  ⟨rfl, rfl, rfl, rfl, rfl, rfl, rfl, rfl, rfl, rfl, rfl, rfl⟩

theorem State.setTag_workOnly (s : State) (t : TagNo) (x : TagState) : s.WorkOnly (s.setTag t x) :=
  ⟨rfl, rfl, rfl, rfl, rfl, rfl, rfl, rfl, rfl, rfl, rfl, rfl⟩

theorem State.mapTags_workOnly (s : State) (f : TagNo → TagState → TagState) : s.WorkOnly (s.mapTags f) := by
  constructor <;> simp

theorem State.setList_workOnly (s : State) (l : List Entry) : s.WorkOnly (s.setList l) :=
  ⟨rfl, rfl, rfl, rfl, rfl, rfl, rfl, rfl, rfl, rfl, rfl, rfl⟩

theorem State.releaseBus_workOnly (s : State) : s.WorkOnly s.releaseBus :=
  ⟨rfl, rfl, rfl, rfl, rfl, rfl, rfl, rfl, rfl, rfl, rfl, rfl⟩

theorem State.setPhase_workOnly (s : State) (t : TagNo) (ph : Phase) : s.WorkOnly (s.setPhase t ph) := by
  unfold State.setPhase
  split
  · exact State.setTag_workOnly s t _
  · exact .refl s

theorem State.finish_workOnly (s : State) (t : TagNo) (r : Request) (st : Status) :
    s.WorkOnly (s.finish t r st) :=
  (State.setTag_workOnly s t _).trans (State.setList_workOnly _ _)

theorem State.orderMotion_workOnly (s : State) (d : Drive) (t : TagNo) (k : MotionKind) (target : Nat) :
    s.WorkOnly (s.orderMotion d t k target) :=
  (State.setDrive_workOnly s d _).trans (State.setPhase_workOnly _ t .position)

theorem State.activate_workOnly (s : State) (d : Drive) (t : TagNo) : s.WorkOnly (s.activate d t) := by
  rcases h : s.tag t with _ | ⟨r, p⟩ | _ | _ | _ | _ <;> simp only [State.activate, h]
  case queued =>
    rcases firstStep r.work (s.drive d).head.state with _ | _ | ⟨k, target⟩
    · exact State.finish_workOnly s t r .ok
    · exact State.setTag_workOnly s t _
    · exact (State.setTag_workOnly s t _).trans (State.orderMotion_workOnly _ d t k target)
  all_goals exact .refl s

theorem State.decide1_workOnly (s : State) (d : Drive) : s.WorkOnly (s.decide1 d) := by
  unfold State.decide1
  split
  · exact (((State.setDrive_workOnly s d _).trans (State.setDrive_workOnly _ d _)).trans
      (State.mapTags_workOnly _ _)).trans (State.activate_workOnly _ d _)
  · exact .refl s

theorem State.decisions_workOnly (s : State) (d : Drive) (n : Nat) : s.WorkOnly (s.decisions d n) :=
  State.decisions_induction (P := s.WorkOnly)
    (fun u h _ _ _ => h.trans (State.decide1_workOnly u d)) n s (.refl s)

theorem State.runOnIfDue_workOnly (s : State) (d : Drive) : s.WorkOnly (s.runOnIfDue d) := by
  rcases State.runOnIfDue_cases s d with h | ⟨-, -, -, -, ⟨-, h⟩ | ⟨-, h⟩⟩ <;> rw [h]
  · exact .refl s
  · exact State.setDrive_workOnly s d _
  · exact State.setDrive_workOnly s d _

theorem State.afterFree_workOnly (s : State) (d : Drive) : s.WorkOnly (s.afterFree d) :=
  (State.decisions_workOnly s d _).trans (State.runOnIfDue_workOnly _ d)

theorem State.stepPulse_workOnly (s : State) (d : Drive) : s.WorkOnly (s.stepPulse d) :=
  ⟨rfl, rfl, rfl, rfl, rfl, rfl, rfl, rfl, rfl, rfl, rfl, rfl⟩

theorem State.ownerPhase_workOnly (s : State) (o : Owner) (ph : Phase) :
    s.WorkOnly (s.ownerPhase o ph) := by
  cases o
  · exact State.setPhase_workOnly s _ ph
  · exact .refl s

theorem State.endStepping_workOnly (s : State) (d : Drive) (m : Motion) :
    s.WorkOnly (s.endStepping d m) :=
  ((State.releaseBus_workOnly s).trans (State.setDrive_workOnly _ d _)).trans
    (State.ownerPhase_workOnly _ m.owner .settle)

theorem State.seekStep_workOnly (s : State) (d : Drive) (m : Motion) (p : Nat) :
    s.WorkOnly (s.seekStep d m p) := by
  unfold State.seekStep
  split
  · exact State.endStepping_workOnly s d m
  · exact (State.setDrive_workOnly s d _).trans (State.stepPulse_workOnly _ d)

theorem State.beginSeek_workOnly (s : State) (d : Drive) (m : Motion) (p : Nat) :
    s.WorkOnly (s.beginSeek d m p) := by
  unfold State.beginSeek
  split
  · exact State.endStepping_workOnly s d m
  · refine .trans ?_ (State.seekStep_workOnly _ d m p)
    exact ⟨rfl, rfl, rfl, rfl, rfl, rfl, rfl, rfl, rfl, rfl, rfl, rfl⟩

theorem State.raiseEvent_workOnly (s : State) (d : Drive) (ev : DriveEvent) :
    s.WorkOnly (s.raiseEvent d ev) := by
  unfold State.raiseEvent
  split <;> exact State.setList_workOnly s _

theorem State.headFault_workOnly (s : State) (d : Drive) (m : Motion) : s.WorkOnly (s.headFault d m) := by
  have h := ((State.raiseEvent_workOnly s d .headFault).trans (State.releaseBus_workOnly _)).trans
    (State.setDrive_workOnly _ d { ((s.raiseEvent d .headFault).releaseBus).drive d with head := .lost })
  refine h.trans ?_
  show State.WorkOnly _ (State.failOwner _ m.owner)
  cases m.owner with
  | detached => exact .refl _
  | tag t =>
    unfold State.failOwner
    simp only
    split
    · exact State.finish_workOnly _ t _ _
    · exact .refl _

theorem State.trk0Check_workOnly (s : State) (d : Drive) (m : Motion) : s.WorkOnly (s.trk0Check d m) := by
  unfold State.trk0Check
  split
  · exact (State.setDrive_workOnly s d _).trans (State.beginSeek_workOnly _ d m 0)
  · split
    · exact (State.setDrive_workOnly s d _).trans (State.stepPulse_workOnly _ d)
    · exact State.headFault_workOnly s d m

theorem State.grantStep_workOnly (s : State) (d : Drive) : s.WorkOnly (s.grantStep d) := by
  unfold State.grantStep
  split
  · exact .refl s
  · simp only
    split
    · refine .trans ?_ (State.beginSeek_workOnly _ d _ _)
      exact ⟨rfl, rfl, rfl, rfl, rfl, rfl, rfl, rfl, rfl, rfl, rfl, rfl⟩
    · refine .trans ?_ (State.trk0Check_workOnly _ d _)
      exact ⟨rfl, rfl, rfl, rfl, rfl, rfl, rfl, rfl, rfl, rfl, rfl, rfl⟩

theorem State.grantOne_workOnly (s : State) : s.WorkOnly s.grantOne := by
  unfold State.grantOne
  split
  · split
    · exact State.grantStep_workOnly s _
    · exact .refl s
  · exact .refl s

/-- The STEP grants at the end of a happening change tags, drives, bus, port and list alone (R96). -/
theorem State.arbitrate_workOnly (s : State) : s.WorkOnly s.arbitrate :=
  (State.grantOne_workOnly s).trans (State.grantOne_workOnly _)

end Sys2Proof.Machine
end

