-- ==== Sys2Proof/Tests/Slice0.lean ====
section
/-! SUPPORT. The model's own tests: the well-formedness checks, single steps with values of the manual's
rules and examples, and a witness for the hypotheses of every statement. -/

namespace Sys2Proof.Tests

set_option Elab.async false

open Sys2Proof Sys2Proof.Machine

/-! ### Small states -/

/-- No level input is asserted. -/
def quiet : Levels := ⟨⟨false, false⟩, ⟨false, false⟩⟩

/-- Both drives show track 0 and write protection. -/
def asserted : Levels := ⟨⟨true, true⟩, ⟨true, true⟩⟩

/-- T 80, 2 sides, S 16, steps of 6 ms, settle 15 ms, run-on 2.0 s, spin-up limit 1.5 s, retry limit 2, age
limit 3, compensation from track 40 (Sections 4.7 and 5.7). -/
def geo : DriveRecord := ⟨80, 2, 16, 6, 15, 20, 15, 2, 3, 40⟩

/-- A spindle TURNING with the period of Section 4.7. -/
def spinning (pos : Position) (count : Nat) : Spindle :=
  { motor := true, condition := .turning, media := .present, position := pos, period := some 1668,
    revCount := some count, measure := none, spinUpTimer := none, watchdog := some 3336,
    runOnTimer := none }

/-- A spindle STARTING. -/
def starting (m : Measure) : Spindle :=
  { motor := true, condition := .starting, media := .unknown, position := .unknown, period := none,
    revCount := none, measure := some m, spinUpTimer := some 15000, watchdog := none, runOnTimer := none }

/-- A head at rest on a track. -/
def headAt (k : Nat) : Head := ⟨.onTrack k, some k, none, none, none⟩

/-- A head in a motion of tag 1. -/
def headIn (state : HeadState) (running : Option Nat) (kind : MotionKind) (target : Nat)
    (stage : MotionStage) (count : Nat) : Head :=
  ⟨state, running, some ⟨kind, target, .tag 1, stage, count⟩,
    if stage = .stepping then some 60 else none, if stage = .settling then some 150 else none⟩

/-- A defined drive. -/
def driveWith (x : Spindle) (h : Head) (q : List TagNo) : DriveUnit := ⟨some geo, .zero, q, .inward, x, h⟩

/-- Session 3, the transmitter idle, drive 0 as given and drive 1 undefined. -/
def part (u : DriveUnit) : State := { State.reset with session := 3, tx := none, units := ⟨u, .fresh⟩ }

/-- The part with tag records. -/
def tagged (s : State) (l : List (TagNo × TagState)) : State :=
  l.foldl (fun s p => s.setTag p.1 p.2) { s with nextStamp := 8 }

/-- A request for drive 0 in session 3. -/
def ask (w : Work) (stamp : Nat) : Request := ⟨w, .d0, 3, stamp, 0⟩

/-- A READ of track 10, side 0 into buffer 0. -/
def readOf (sector : Nat) (l : Ladder) : Work := .read ⟨10, 0, sector⟩ 0 l

/-- A WRITE of track 10, side 0 from buffer 0. -/
def writeOf (sector : Nat) (v due : Bool) : Work := .write ⟨10, 0, sector⟩ v 0 .start due

/-- An ACTIVE tag. -/
def act (w : Work) (ph : Phase) : TagState := .active (ask w 0) 0 ph false

/-- Drive 0 STOPPED, nothing queued. -/
def stopped : State := part (driveWith (.still .stopped .unknown) (headAt 10) [])

/-- Drive 0 TURNING at sector 5 with its head AT track 10: tag 1 ACTIVE, tag 2 QUEUED. -/
def busy (w : Work) (ph : Phase) (h : Head) : State :=
  (tagged (part (driveWith (spinning (.sector 5) 6) h [2]))
    [(1, act w ph), (2, .queued (ask (.seek 22) 1) 0)]).bindBuffer 0 (.tag 1)

/-- Tag 1 is ACTIVE in ROTATE with a READ of sector 9. -/
def rotating : State := busy (readOf 9 .start) .rotate (headAt 10)

/-- A drive with a pass of tag 1 under way. -/
def passing (w : Work) (buffer : Option BufNo) (body : PassBody) : State :=
  { busy w .pass (headAt 10) with
    pass := some ⟨.d0, 10, 0, .tag 1, buffer, body⟩
    bus := ⟨some ⟨.d0, .pass⟩, none, some .d0⟩
    port := { State.reset.port with sel := ⟨true, false⟩ } }

/-- A tag in a state with a request that is over. -/
def ended (x : TagState) : State := tagged stopped [(1, x)]

/-- The final status OK with no track reached. -/
def fine : Final := ⟨.ok, none⟩

/-- The state a command leads to. -/
def after (c : Instr) (s : State) : State :=
  match exec c s with
  | .next t => t
  | _ => s

/-- Bytes of a frame on TXD, a number of them from a character on. -/
def sentBytes (f : TxFrame) (first n : Nat) : List Byte :=
  (List.range n).map fun i => byteOfData (((f.line.drop (10 * (first + i) + 1)).take 8).map fun
    | .data b => b
    | _ => false)

/-- 256 equal bytes. -/
def block (b : Byte) : Block := ⟨List.replicate 256 b, List.length_replicate⟩

/-- Bytes as RDATA brings them, most significant bit first, cut or filled to a length. -/
def rdata (n : Nat) (bytes : List Byte) : Bits n :=
  ⟨((mediaBits bytes) ++ List.replicate n false).take n, by
    rw [List.length_take, List.length_append, List.length_replicate]; omega⟩

/-! ### Well-formedness -/

theorem test_wellFormed_longest : (Instr.write quiet 3 0 (List.replicate 263 0)).wellFormed = true := by
  decide +kernel

/-- R149: content of 269 bytes does not fit, whatever the kind. -/
theorem test_wellFormed_tooLong :
    let body := List.replicate 264 (0 : Byte)
    [Instr.openSession 0 0 body, .define 0 0 body, .query quiet 0 0 body, .read quiet 0 0 body,
      .write quiet 0 0 body, .verify quiet 0 0 body, .format quiet 0 0 body, .seek quiet 0 0 body,
      .recal quiet 0 0 body, .abort quiet 0 0 body, .release 0 0 body, .resend 0 0 body,
      .unknownKind 0x77 0 0 body].all (fun c => !c.wellFormed) = true := by decide +kernel

/-- R6: no known kind is an unknown kind. -/
theorem test_wellFormed_knownKind :
    knownKinds.all (fun k => !(Instr.unknownKind k 0 0 []).wellFormed) = true := by decide

/-- R64: an interval is 1 to 50000 units. -/
theorem test_wellFormed_interval :
    (Instr.indexPulse quiet .d0 0).wellFormed = false
      ∧ (Instr.indexPulse quiet .d0 50001).wellFormed = false
      ∧ (Instr.indexPulse quiet .d0 50000).wellFormed = true := by decide

/-- The table gives no row bits, so no word spells a command and nothing is fetched (log entry 5). -/
theorem test_no_word_is_a_command : decodeTableWord 8 0x10 = none
    ∧ State.reset.withFetchWord 8 0x10 = State.reset := ⟨rfl, rfl⟩

/-! ### Checks, framing and codes -/

/-- The published check values of the two CRC-16 of R104 and R150 over the digits 1 to 9. -/
theorem test_checks :
    let digits : List Byte := [0x31, 0x32, 0x33, 0x34, 0x35, 0x36, 0x37, 0x38, 0x39]
    linkCheck digits = 0x29B1 ∧ mediaCheck digits = 0x31C3 := by decide +kernel

/-- R149. -/
theorem test_escapes :
    lineBytes [0xF9, 0xF8, 0xD9, 0x01] = [0xF9, 0xF8, 0xD9, 0xF8, 0xD8, 0xD9, 0x01, 0xF9] := by decide

/-- R147: 0xF9 is a start bit, 1 0 0 1 1 1 1 1 and a stop bit on TXD, and so on RXD. -/
theorem test_character :
    character 0xF9 = [.start, .data true, .data false, .data false, .data true, .data true, .data true,
      .data true, .data true, .stop]
      ∧ byteOfData [true, false, false, true, true, true, true, true] = 0xF9 := by decide

/-- Section 12.6: the ID of side 1, sector 5 has the second byte 0x25, of side 0, sector 5 0x05. -/
theorem test_id : idBytes 7 1 5 = [0x07, 0x25] ∧ idBytes 7 0 5 = [0x07, 0x05] := by decide

/-- Table 0-3. -/
theorem test_rates : (Rate.ofStraps true false).bitsPerSecond = 115200
    ∧ (Rate.ofStraps false true).bitsPerSecond = 38400 := by decide

/-- Section 2.7 and Table 2-3, with S = 16. -/
theorem test_waits :
    waitFor (.sector 5) 16 (.sector 3) = 15 ∧ waitFor (.sector 5) 16 (.sector 9) = 4
      ∧ waitFor (.sector 10) 16 (.sector 12) = 2 ∧ waitFor (.sector 13) 16 (.sector 3) = 7
      ∧ waitFor (.sector 9) 16 (.sector 9) = 17 ∧ waitFor .index 16 .index = 17
      ∧ waitFor .index 16 (.sector 0) = 1 ∧ waitFor (.sector 15) 16 .index = 1 := by decide

/-- The intervals of Section 4.7, and the bound of R65 met exactly. -/
theorem test_stability : stable 2100 1820 = false ∧ stable 1820 1682 = false ∧ stable 1682 1668 = true
    ∧ stable 3200 3300 = true ∧ stable 3200 3301 = false ∧ stable 3200 3100 = true := by decide

/-- Table 12-11: a READ reply with data has 268 bytes of content. -/
theorem test_read_reply_layout :
    let s := { ended (.done ⟨.read ⟨12, 0, 3⟩ 2 ⟨1, 0, false⟩, .d0, 4, 0, 0⟩ fine) with session := 4 }
    (s.compose (.reply 1)).length = 268
      ∧ (s.compose (.reply 1)).take 10
        = [0x83, 0x04, 0x01, 0x00, 0x10, 0x00, 0x0C, 0x00, 0x03, 0x01] := by decide +kernel

/-! ### One step of each command -/

/-- R163: the reset deasserts MOTOR0 and the select line and drops the pass. -/
theorem test_resetBegin :
    let t := after (.resetBegin .line) (passing (readOf 9 .start) (some 0) (.reading false 9 .searching))
    (t.drive .d0).spindle.motor = false ∧ t.port.sel = ⟨false, false⟩ ∧ t.pass = none := by
  decide +kernel

/-- R162, R163: RESTARTED with cause LINE under session 0. -/
theorem test_hardwareReset :
    let t := after (.hardwareReset true true) { rotating with resetHold := some .line }
    t.session = 0 ∧ t.tag 1 = .free ∧ t.rate = .r460800
      ∧ t.tx.map (fun f => sentBytes f 0 8)
        = some [0xF9, 0x81, 0x00, 0xFF, 0x2C, 0x14, 0x03, 0x02] := by
  refine ⟨rfl, ?_, rfl, rfl⟩
  decide +kernel

/-- R154: 0xD9 after the escape byte is the content byte 0xF9. -/
theorem test_rxByte_escape :
    (after (.rxByte quiet (dataOf 0xD9) true) { stopped with rx := ⟨.escape [0x01], some 32⟩ }).rx
      = ⟨.gather [0x01, 0xF9], some 32⟩ := by decide +kernel

/-- R153: the 269th content byte is LONG, and the notice frame begins at once. -/
theorem test_rxByte_long :
    let t := after (.rxByte quiet (dataOf 0x00) true)
      { stopped with rx := ⟨.gather (List.replicate 268 0), some 32⟩ }
    t.rx = ⟨.idle, none⟩
      ∧ t.tx.map (fun f => sentBytes f 0 7) = some [0xF9, 0x85, 0x03, 0xFF, 0x03, 0x00, 0x00] := by
  decide +kernel

/-- R155. -/
theorem test_timeout :
    let t := after .timeout { stopped with rx := ⟨.gather [0x10], some 32⟩ }
    t.rx = ⟨.idle, none⟩
      ∧ t.tx.map (fun f => sentBytes f 0 7) = some [0xF9, 0x85, 0x03, 0xFF, 0x05, 0x00, 0x00] := by
  decide +kernel

/-- R159: session 255 is followed by 1; R26: the queued tag is freed. -/
theorem test_openSession :
    let t := after (.openSession 9 9 []) { rotating with session := 255 }
    t.session = 1 ∧ t.tag 2 = .free ∧ (t.drive .d0).queue = []
      ∧ t.tx.map (fun f => sentBytes f 0 12)
        = some [0xF9, 0x82, 0x01, 0xFF, 0x2C, 0x14, 0x03, 0x10, 0x08, 0x02, 0x01, 0x0C] := by
  decide +kernel

/-- R50 to R52: the new record is in force and the head is lost. -/
theorem test_define :
    let t := after (.define 3 7 [0, 40, 1, 16, 6, 15, 0, 20, 2, 3, 96]) stopped
    (t.drive .d0).record = some ⟨40, 1, 16, 6, 15, 0, 20, 2, 3, 96⟩ ∧ (t.drive .d0).head = .lost
      ∧ t.tag 7 = .sending ⟨.define, .d0, 3, 0, 0⟩ fine false := by decide +kernel

/-- R57, Table 12-6: the snapshot of a TURNING drive, at offset 5 of the reply. -/
theorem test_query :
    let t := after (.query asserted 3 5 [0, 1]) rotating
    t.tx.map (fun f => sentBytes f 6 12)
      = some [0x00, 0x03, 0x01, 0x0A, 0x00, 0x05, 0x06, 0x84, 0x01, 0x01, 0x01, 0xFF] := by
  decide +kernel

/-- R28, R63, R128: the first READ binds buffer 0 and starts the spindle. -/
theorem test_read :
    let t := after (.read quiet 3 4 [0, 10, 0, 7]) stopped
    t.tag 4 = .queued ⟨.read ⟨10, 0, 7⟩ 0 .start, .d0, 3, 0, 0⟩ 0 ∧ (t.buffer 0).binding = .tag 4
      ∧ (t.drive .d0).queue = [4] ∧ (t.drive .d0).spindle.spinUpTimer = some 15000 := by
  decide +kernel

/-- Table 1-3: the track is out of range before a buffer is looked for. -/
theorem test_read_refused :
    (after (.read quiet 3 4 [0, 80, 0, 7]) stopped).tx.map (fun f => sentBytes f 0 7)
      = some [0xF9, 0x85, 0x03, 0x04, 0x18, 0x10, 0x00] := by decide +kernel

/-- R128, R129: the data of a WRITE fill its buffer. -/
theorem test_write :
    let t := after (.write quiet 3 4 ([0, 10, 1, 15, 1] ++ List.replicate 256 0xA5)) stopped
    t.tag 4 = .queued ⟨.write ⟨10, 1, 15⟩ true 0 .start false, .d0, 3, 0, 0⟩ 0
      ∧ (t.buffer 0).contents = block 0xA5 := by decide +kernel

/-- R28, R42: a VERIFY of sector 6 overtakes a READ of sector 9 at sector 5. -/
theorem test_verify :
    let t := after (.verify quiet 3 4 [0, 10, 0, 6]) rotating
    t.tag 4 = .active ⟨.verify ⟨10, 0, 6⟩ .start, .d0, 3, 8, 0⟩ 0 .rotate false
      ∧ t.tag 1 = .queued (ask (readOf 9 .start) 0) 1 ∧ (t.drive .d0).queue = [1, 2] := by
  decide +kernel

/-- R10: side 2 of a drive with two sides is out of range. -/
theorem test_format_refused :
    (after (.format quiet 3 4 [0, 10, 2, 0xE5]) stopped).tx.map (fun f => sentBytes f 0 7)
      = some [0xF9, 0x85, 0x03, 0x04, 0x18, 0x13, 0x00] := by decide +kernel

theorem test_format :
    (after (.format quiet 3 4 [0, 79, 1, 0xE5]) stopped).tag 4
      = .queued ⟨.format 79 1 0xE5, .d0, 3, 0, 0⟩ 0 := by decide +kernel

/-- R35: a SEEK to the current track of a free TURNING drive completes at once; then run-on starts. -/
theorem test_seek_here :
    let t := after (.seek quiet 3 4 [0, 10]) (part (driveWith (spinning (.sector 5) 6) (headAt 10) []))
    t.tag 4 = .sending ⟨.seek 10, .d0, 3, 0, 0⟩ ⟨.ok, some 10⟩ false
      ∧ (t.drive .d0).spindle.runOnTimer = some 20000 := by decide +kernel

/-- R39, R85, R95: a SEEK to another track takes the bus and steps at once. -/
theorem test_seek_away :
    let t := after (.seek quiet 3 4 [0, 12]) (part (driveWith (spinning (.sector 5) 6) (headAt 10) []))
    (t.drive .d0).head.running = some 11 ∧ t.bus.holder = some ⟨.d0, .step⟩
      ∧ t.port.dir = .inward ∧ t.port.steps.get .d0 = 1 := by decide +kernel

/-- R86: a RECAL that finds TRK0n asserted at its grant issues no pulse, is counted, and settles. -/
theorem test_recal :
    let t := after (.recal asserted 3 4 [0]) (part (driveWith (spinning (.sector 5) 6) (headAt 10) []))
    (t.drive .d0).head.state = .settling 0 ∧ t.port.steps.get .d0 = 0
      ∧ (t.drive .d0).stats.recalibrations = 1 ∧ t.bus.holder = none := by decide +kernel

/-- R20: an ABORT in ROTATE ends the request, and the queued SEEK is selected and steps. -/
theorem test_abort :
    let t := after (.abort quiet 3 1 []) rotating
    t.tag 1 = .sending (ask (readOf 9 .start) 0) ⟨.aborted, none⟩ false
      ∧ t.tag 2 = .active (ask (.seek 22) 1) 0 .position false := by decide +kernel

/-- R24: a HELD tag becomes FREE with its buffer. -/
theorem test_release :
    let t := after (.release 3 1 []) ((ended (.held (ask (readOf 9 .start) 0) fine)).bindBuffer 0 (.tag 1))
    t.tag 1 = .free ∧ (t.buffer 0).binding = .free := by decide +kernel

/-- R25: a HELD tag goes back to DONE, and its frame begins again at once. -/
theorem test_resend :
    let t := after (.resend 3 1 []) (ended (.held (ask (.seek 9) 0) ⟨.ok, some 9⟩))
    t.tag 1 = .sending (ask (.seek 9) 0) ⟨.ok, some 9⟩ false
      ∧ t.tx.map (fun f => sentBytes f 0 8) = some [0xF9, 0x83, 0x03, 0x01, 0x00, 0x14, 0x00, 0x09] := by
  decide +kernel

/-- R6, R12. -/
theorem test_unknownKind :
    (after (.unknownKind 0x81 7 0x99 [1]) stopped).tx.map (fun f => sentBytes f 0 7)
      = some [0xF9, 0x85, 0x03, 0x99, 0x10, 0x81, 0x00] := by decide +kernel

/-- R149: the transmitter escapes a content byte 0xF9, here the tag of a refused frame. -/
theorem test_unknownKind_escaped :
    (after (.unknownKind 0x77 3 0xF9 []) stopped).tx.map (fun f => sentBytes f 0 8)
      = some [0xF9, 0x85, 0x03, 0xF8, 0xD9, 0x10, 0x77, 0x00] := by decide +kernel

/-- R140: with HOLD asserted a notice waits, and the deassertion sends it. -/
theorem test_hold :
    let s := after (.unknownKind 0x77 3 1 []) (after .holdAsserted stopped)
    s.tx = none ∧ s.list = [.notice .unknownKind 0x77 1 0] ∧ (after .holdDeasserted s).list = [] := by
  decide +kernel

/-- R23, R141: the tag of a REPLY frame that ends is HELD. -/
theorem test_frameEnd :
    let t := after .frameEnd
      { ended (.sending (ask (.seek 9) 0) ⟨.ok, some 9⟩ false) with tx := some ⟨some 1, []⟩ }
    t.tag 1 = .held (ask (.seek 9) 0) ⟨.ok, some 9⟩ ∧ t.tx = none := by decide +kernel

/-- Section 4.7: the interval 1668 after 1682 with sixteen sector pulses ends the spin-up. -/
theorem test_indexPulse_starting :
    let t := after (.indexPulse quiet .d0 1668)
      (part (driveWith (starting ⟨true, some 1682, 16⟩) (headAt 4) []))
    (t.drive .d0).spindle.condition = .turning ∧ (t.drive .d0).spindle.period = some 1668
      ∧ (t.drive .d0).spindle.watchdog = some 3336
      ∧ (t.drive .d0).spindle.runOnTimer = some 20000 := by decide +kernel

/-- R70: an index pulse with fifteen sectors counted is WRONG_MEDIA; the ACTIVE request ends first. -/
theorem test_indexPulse_wrongMedia :
    let t := after (.indexPulse quiet .d0 1668) rotating
    (t.drive .d0).spindle = .still .stopped .present
      ∧ t.list = [.reply 1, .reply 2] ∧ t.tag 2 = .done (ask (.seek 22) 1) ⟨.wrongMedia, some 10⟩ := by
  decide +kernel

/-- R97: the starting pulse of the READ grants its pass. -/
theorem test_sectorPulse_grants :
    let t := after (.sectorPulse quiet .d0) (busy (readOf 6 .start) .rotate (headAt 10))
    t.bus = ⟨some ⟨.d0, .pass⟩, none, some .d0⟩
      ∧ t.pass = some ⟨.d0, 10, 0, .tag 1, some 0, .reading false 6 .searching⟩ := by decide +kernel

/-- R111, R170: a write pass on track 10, below compensation track 40, opens the gate without COMP. -/
theorem test_sectorPulse_writes :
    let t := after (.sectorPulse quiet .d0) (busy (writeOf 6 false false) .rotate (headAt 10))
    t.port.wgate = true ∧ t.port.comp = false
      ∧ (List.range 5).map (fun i => byteAt t.port.wdata (10 + i)) = [0x3C, 0x5A, 0x0A, 0x06, 0x00]
      ∧ (t.port.wdata.drop 80).take 8 = [false, false, true, true, true, true, false, false] := by decide +kernel

/-- R67: no index pulse seen is NO_MEDIA, and the queued request ends NOT_READY. -/
theorem test_spinUpTimerExpiry :
    let t := after (.spinUpTimerExpiry quiet .d0)
      (tagged (part (driveWith (starting ⟨false, none, 3⟩) (headAt 4) [2]))
        [(2, .queued (ask (.seek 22) 1) 0)])
    (t.drive .d0).spindle = .still .stopped .absent
      ∧ t.tag 2 = .done (ask (.seek 22) 1) ⟨.notReady, some 4⟩
      ∧ t.tx.map (fun f => sentBytes f 0 6) = some [0xF9, 0x84, 0x03, 0xFF, 0x00, 0x01] := by decide +kernel

/-- R71, R74. -/
theorem test_indexWatchdogExpiry :
    let t := after (.indexWatchdogExpiry quiet .d0) rotating
    t.tag 1 = .done (ask (readOf 9 .start) 0) ⟨.mediaLost, none⟩
      ∧ (t.drive .d0).spindle.media = .absent := by decide +kernel

/-- R79: no event, and the head is kept. -/
theorem test_runOnTimerExpiry :
    let u := { spinning (.sector 5) 6 with runOnTimer := some 20000 }
    let t := after (.runOnTimerExpiry .d0) (part (driveWith u (headAt 10) []))
    t.drive .d0 = driveWith (.still .stopped .unknown) (headAt 10) [] ∧ t.list = [] ∧ t.tx = none := by
  decide +kernel

/-- R108, R109: the sync mark, then an ID of another track. -/
theorem test_syncMark_and_id :
    let s := after .syncMarkFound (passing (readOf 9 .start) (some 0) (.reading false 9 .searching))
    s.pass.map (·.body) = some (.reading false 9 (.reading false))
      ∧ (after (.idComplete (rdata 8 [11]) (rdata 8 [9])) s).pass.map (·.body)
        = some (.reading false 9 (.decided .idMismatch none))
      ∧ (after (.idComplete (rdata 8 [10]) (rdata 8 [9])) s).pass.map (·.body) = some (.reading false 9 (.reading true)) := by
  decide +kernel

/-- The bits of data of 0xA5. -/
def sectorBits : Bits 2048 := rdata 2048 (block 0xA5).val

/-- The bits of the check of those data on track 10, side 0, sector 9. -/
def checkBits : Bits 16 := rdata 16 (word16Bytes (mediaCheck ([10, 9] ++ (block 0xA5).val)))

theorem sectorBits_read : rdataBlock sectorBits = block 0xA5 :=
  rdataBlock_of_mediaBits (List.take_left' (by rw [mediaBits_length, (block 0xA5).2]))

theorem checkBits_read : rdataCheck checkBits = mediaCheck ([10, 9] ++ (block 0xA5).val) :=
  rdataCheck_of_mediaBits (List.take_left' (mediaBits_length _))

/-- R114: a check pass of data that differ from the buffer is VERIFY_MISMATCH although the check is right. -/
theorem test_recordComplete :
    (after (.recordComplete sectorBits checkBits) (passing (writeOf 9 true true) (some 0)
      (.reading true 9 (.reading true)))).pass.map (·.body)
        = some (.reading true 9 (.decided .verifyMismatch (some (block 0xA5)))) := by
  show some (PassBody.reading true 9 (.decided (recordOutcome true [10, 9] (rdataBlock sectorBits)
    (rdataCheck checkBits) (some zeroBlock)) (some (rdataBlock sectorBits)))) = _
  rw [sectorBits_read, checkBits_read, recordOutcome, if_neg (not_not.mpr rfl), if_pos (by decide +kernel)]

/-- R109, R110, R170: a read pass of the same bits is OK and keeps the data. -/
theorem test_recordComplete_ok :
    (after (.recordComplete sectorBits checkBits) (passing (readOf 9 .start) (some 0)
      (.reading false 9 (.reading true)))).pass.map (·.body)
        = some (.reading false 9 (.decided .ok (some (block 0xA5)))) := by
  show some (PassBody.reading false 9 (.decided (recordOutcome false [10, 9] (rdataBlock sectorBits)
    (rdataCheck checkBits) (some zeroBlock)) (some (rdataBlock sectorBits)))) = _
  rw [sectorBits_read, checkBits_read, recordOutcome, if_neg (not_not.mpr rfl), if_neg (by decide)]

/-- R112. -/
theorem test_writeComplete :
    let t := after .writeComplete (passing (writeOf 9 true false) (some 0) (.writing 9 .gateOpen))
    t.tag 1 = .active ⟨writeOf 9 true true, .d0, 3, 0, 1⟩ 0 .pass false
      ∧ (t.drive .d0).stats.sectorsWritten = 1 ∧ t.port.wgate = false := by decide +kernel

/-- R115. -/
theorem test_formatSectorComplete :
    let t := after .formatSectorComplete
      (passing (.format 10 0 0xE5) none (.formatting 0xE5 (some ⟨4, .gateOpen⟩) 4 false))
    t.pass.map (·.body) = some (.formatting 0xE5 (some ⟨4, .complete⟩) 5 false)
      ∧ t.tag 1 = .active ⟨.format 10 0 0xE5, .d0, 3, 0, 5⟩ 0 .pass false := by decide +kernel

/-- R88: the check after T + 8 steps ends the motion in HEAD_FAULT; R38: the queued SEEK recalibrates. -/
theorem test_stepTimerExpiry_headFault :
    let t := after (.stepTimerExpiry quiet .d0)
      (busy (readOf 9 .start) .position (headIn (.moving 10) none .recalThenSeek 10 .stepping 88))
    t.tag 1 = .done (ask (readOf 9 .start) 0) ⟨.seekFail, none⟩
      ∧ (t.drive .d0).head.motion = some ⟨.recalThenSeek, 22, .tag 2, .stepping, 1⟩ := by decide +kernel

/-- Section 5.7: track 0 found, the seek part issues its first pulse inward at once. -/
theorem test_stepTimerExpiry_trackZero :
    let t := after (.stepTimerExpiry asserted .d0)
      (busy (readOf 9 .start) .position (headIn (.moving 10) none .recalThenSeek 10 .stepping 3))
    (t.drive .d0).head.running = some 1 ∧ t.port.dir = .inward ∧ t.port.steps.get .d0 = 1 := by
  decide +kernel

/-- R89: a READ enters ROTATE at the end of its settle. -/
theorem test_settleTimerExpiry :
    let t := after (.settleTimerExpiry quiet .d0)
      (busy (readOf 9 .start) .settle (headIn (.settling 10) (some 10) .seek 10 .settling 0))
    t.tag 1 = act (readOf 9 .start) .rotate ∧ (t.drive .d0).head = headAt 10 := by decide +kernel

/-! ### Witnesses: states and operands that meet the hypotheses of each statement -/

/-- A receiver state in session 3. -/
def hearing (ph : RxPhase) : State := { stopped with rx := ⟨ph, some 32⟩ }

theorem reset_tag : ∀ t, State.reset.tag t = .free := by decide +kernel

/-- The two tags that are not FREE in a busy part, and nothing else. -/
theorem busy_tag (w : Work) (ph : Phase) (h : Head) (t : TagNo) :
    (busy w ph h).tag t = if t = 1 then act w ph else if t = 2 then .queued (ask (.seek 22) 1) 0 else .free := by
  have hb : (busy w ph h).tag t
      = (((part (driveWith (spinning (.sector 5) 6) h [2])).setTag 1 (act w ph)).setTag 2
          (.queued (ask (.seek 22) 1) 0)).tag t := rfl
  rw [hb, State.tag_setTag_eq, State.tag_setTag_eq]
  by_cases h2 : t = 2
  · subst h2
    rfl
  · by_cases h1 : t = 1
    · subst h1
      rfl
    · rw [if_neg h2, if_neg h1, if_neg h1, if_neg h2]
      exact reset_tag t

theorem test_witness_StepRunsFrontCommand :
    ({ rotating with pending := [.frameEnd, .timeout] } : State).pending = .frameEnd :: [.timeout]
      ∧ rotating.pending = [] := ⟨rfl, rfl⟩

theorem test_witness_CommandsKeepTheQueue :
    ∃ t, exec (.sectorPulse quiet .d0) rotating = .next t := ⟨_, rfl⟩

theorem test_witness_PowerUpReachesReset : rotating.hold = false := rfl

theorem test_witness_HardwareResetAnnounces :
    rotating.hold = false ∧ ({ rotating with hold := true } : State).hold = true := ⟨rfl, rfl⟩

theorem test_witness_HeldPartTakesNothing :
    ({ rotating with resetHold := some .power } : State).resetHold ≠ none
      ∧ (∀ cause, Instr.holdAsserted ≠ .resetBegin cause)
      ∧ ∀ rate1 rate0, Instr.holdAsserted ≠ .hardwareReset rate1 rate0 :=
  ⟨by decide, fun _ => nofun, fun _ _ => nofun⟩

theorem test_witness_ReceiverTakesCharacters :
    (hearing .idle).resetHold = none ∧ (hearing .idle).rx.phase = .idle
      ∧ (hearing (.gather [])).rx.phase = .gather []
      ∧ (hearing (.gather (List.replicate 267 7))).rx.phase = .gather (List.replicate 267 7)
      ∧ (hearing (.escape (List.replicate 267 7))).rx.phase = .escape (List.replicate 267 7)
      ∧ (List.replicate 267 (7 : Byte)).length < 268 ∧ (0xD8 : Byte) ≠ 0xF9 ∧ (0xD8 : Byte) ≠ 0xF8 := by
  refine ⟨rfl, rfl, rfl, rfl, rfl, ?_⟩
  decide +kernel

/-- Each link fault at the edge of its range: content of 4 bytes is SHORT, of 5 with a wrong check CHECK,
the byte after 268 LONG. -/
theorem test_witness_LinkFaultsListNotices :
    (RxPhase.gather []).faultOn 0xF9 false = some (.line, .idle)
      ∧ (RxPhase.escape []).faultOn 0x00 false = some (.line, .idle)
      ∧ (RxPhase.gather [1]).faultOn 0xF9 true = some (.short, .gather [])
      ∧ (RxPhase.gather [1, 2, 3, 4]).faultOn 0xF9 true = some (.short, .gather [])
      ∧ (RxPhase.gather [1, 2, 3, 4, 5]).faultOn 0xF9 true = some (.check, .gather [])
      ∧ (RxPhase.gather (List.replicate 268 7)).faultOn 0x00 true = some (.long, .idle)
      ∧ (RxPhase.escape (List.replicate 268 7)).faultOn 0xD9 true = some (.long, .idle)
      ∧ (RxPhase.escape [1]).faultOn 0xF9 true = some (.badEscape, .gather [])
      ∧ (RxPhase.escape [1]).faultOn 0xF8 true = some (.badEscape, .idle) := by decide +kernel

theorem test_witness_InterByteTimerExpires :
    (hearing (.gather [1])).resetHold = none ∧ (hearing (.gather [1])).rx.timer ≠ none
      ∧ stopped.rx.timer = none := by decide +kernel

theorem test_witness_ClosingMarkHandsOn :
    (hearing (.gather (sealContent (0x21 :: 3 :: 1 :: [])))).rx.phase
      = .gather (sealContent (0x21 :: 3 :: 1 :: [])) := rfl

theorem test_witness_SentFrameIsItsCommand :
    stopped.resetHold = none ∧ stopped.rx.phase = .idle
      ∧ (hearing (.gather [])).rx.phase = .gather []
      ∧ (List.replicate 263 (0xF9 : Byte)).length + 5 ≤ 268 := by
  refine ⟨rfl, rfl, rfl, ?_⟩
  decide +kernel

theorem test_witness_OneByteErrorChangesCheck : (0x00 : Byte) ≠ 0x80 := by decide

theorem test_witness_ReceiverIsKept :
    (hearing (.gather [1])).rx.inBounds = true
      ∧ ∃ t, step { hearing (.gather [1]) with pending := [.rxByte quiet (dataOf 2) true] } = .next t :=
  ⟨by decide +kernel, _, rfl⟩

theorem test_witness_FrameBegins :
    let s := { ended (.done (ask (.seek 9) 0) ⟨.ok, some 9⟩) with list := [.reply 1, .started .opened] }
    s.tx = none ∧ s.hold = false ∧ s.resetHold = none ∧ s.list = .reply 1 :: [.started .opened]
      ∧ s.tag 1 = .done (ask (.seek 9) 0) ⟨.ok, some 9⟩ ∧ stopped.list = [] := by decide +kernel

theorem test_witness_FrameContents :
    stopped.contentLength (.started .opened) = some 13
      ∧ (ended (.done (ask (readOf 9 .start) 0) fine)).contentLength (.reply 1) = some 268 := by
  decide +kernel

theorem test_witness_ReadReplyCarriesBuffer :
    ((ended (.held (ask (readOf 9 .start) 0) fine)).tag 1).final?
        = some (ask (readOf 9 .start) 0, fine)
      ∧ (ask (readOf 9 .start) 0).work = .read ⟨10, 0, 9⟩ 0 .start := by decide +kernel

theorem test_witness_HoldStopsBeginning :
    ({ rotating with hold := true } : State).hold = true
      ∧ ∃ t, exec (.sectorPulse quiet .d0) { rotating with hold := true } = .next t := ⟨rfl, _, rfl⟩

/-- A REPLY's frame is on TXD: its tag is SENDING, with and without the release-pending mark. -/
def sending (session : Byte) (mark : Bool) : State :=
  { ended (.sending ⟨readOf 9 .start, .d0, session, 0, 0⟩ fine mark) with tx := some ⟨some 1, []⟩ }

theorem test_witness_FrameEndSettlesTag :
    (sending 3 false).resetHold = none ∧ (sending 3 false).tx = some ⟨some 1, []⟩
      ∧ (sending 3 false).tag 1 = .sending (ask (readOf 9 .start) 0) fine false
      ∧ (sending 3 true).tag 1 = .sending (ask (readOf 9 .start) 0) fine true
      ∧ (sending 2 false).tag 1 = .sending ⟨readOf 9 .start, .d0, 2, 0, 0⟩ fine false
      ∧ (sending 2 false).session ≠ 2 := by decide +kernel

theorem test_witness_FrameOnLineIsFixed :
    (sending 3 false).tx = some ⟨some 1, []⟩ ∧ Instr.holdAsserted ≠ .frameEnd
      ∧ ∃ t, exec .holdAsserted (sending 3 false) = .next t := ⟨rfl, nofun, _, rfl⟩

theorem test_witness_FrameBearsCurrentSession :
    let t := after (.unknownKind 0x77 3 1 []) stopped
    exec (.unknownKind 0x77 3 1 []) stopped = .next t ∧ t.tx ≠ none ∧ t.tx ≠ stopped.tx := by
  refine ⟨rfl, ?_⟩
  decide +kernel

theorem test_witness_EventMerges :
    ({ stopped with list := [.event .d0 (.single .noMedia)] } : State).list.countP (Entry.isEventOf .d0)
      = 1 ∧ stopped.list.countP (Entry.isEventOf .d0) = 0 := by decide +kernel

theorem test_witness_OpenWhileClosed :
    State.reset.resetHold = none ∧ State.reset.session = 0 := by decide

theorem test_witness_OpenEndsSession : rotating.resetHold = none ∧ rotating.session ≠ 0 := by
  decide +kernel

/-- A frame for each check of Table 1-3 that fails first. -/
theorem test_witness_FirstFailingCheckRefuses :
    stopped.firstFailure ⟨0x77, 3, 1, []⟩ = some .unknownKind
      ∧ stopped.firstFailure ⟨0x14, 3, 1, [0]⟩ = some .badLength
      ∧ State.reset.firstFailure ⟨0x14, 3, 1, [0, 1]⟩ = some .notOpen
      ∧ stopped.firstFailure ⟨0x14, 2, 1, [0, 1]⟩ = some .stale
      ∧ stopped.firstFailure ⟨0x14, 3, 16, [0, 1]⟩ = some .badTag
      ∧ rotating.firstFailure ⟨0x14, 3, 2, [0, 1]⟩ = some .tagBusy
      ∧ stopped.firstFailure ⟨0x14, 3, 15, [2, 1]⟩ = some .badDrive
      ∧ stopped.firstFailure ⟨0x14, 3, 1, [1, 1]⟩ = some .notDefined
      ∧ stopped.firstFailure ⟨0x14, 3, 1, [0, 80]⟩ = some .outOfRange
      ∧ rotating.firstFailure ⟨0x02, 3, 4, [0, 80, 2, 16, 6, 15, 0, 15, 2, 3, 96]⟩ = some .driveBusy
      ∧ stopped.firstFailure ⟨0x20, 3, 1, []⟩ = some .noSuchTag
      ∧ rotating.firstFailure ⟨0x22, 3, 1, []⟩ = some .notDone
      ∧ (ended (.held (ask .recal 0) fine)).firstFailure ⟨0x20, 3, 1, []⟩ = some .tooLate
      ∧ (sending 3 true).firstFailure ⟨0x21, 3, 1, []⟩ = some .alreadyPending := by decide +kernel

theorem test_witness_FirstFailingCheckRefuses_unknown : knownKinds.contains 0x85 = false := by decide

theorem test_witness_FirstFailingCheckRefuses_open :
    stopped.resetHold = none ∧ ([0] : List Byte) ≠ [] := by decide +kernel

/-- Check 10: eight bound buffers leave none for a READ. -/
theorem test_witness_FirstFailingCheckRefuses_noBuffer :
    ({ stopped with buffers := Vector.replicate 8 ⟨.detachedPass, zeroBlock⟩ } : State).firstFailure
      ⟨0x10, 3, 1, [0, 79, 1, 15]⟩ = some .noBuffer := by decide +kernel

theorem test_witness_ReadJoinsQueue :
    rotating.resetHold = none ∧ rotating.firstFailure ⟨0x10, 3, 15, [0, 79, 1, 15]⟩ = none := by
  decide +kernel

theorem test_witness_WriteJoinsQueue :
    rotating.firstFailure ⟨0x11, 3, 15, [0, 79, 1, 15, 1] ++ List.replicate 256 0⟩ = none := by
  decide +kernel

theorem test_witness_OtherWorkJoinsQueue :
    rotating.firstFailure ⟨0x12, 3, 4, [0, 79, 1, 15]⟩ = none
      ∧ rotating.firstFailure ⟨0x13, 3, 4, [0, 79, 1, 0xE5]⟩ = none
      ∧ rotating.firstFailure ⟨0x14, 3, 4, [0, 79]⟩ = none
      ∧ rotating.firstFailure ⟨0x15, 3, 4, [0]⟩ = none := by decide +kernel

theorem test_witness_AcceptanceAtTheDrive :
    let run := part (driveWith (spinning (.sector 5) 6) (headAt 10) [2])
    (stopped.drive .d0).spindle.condition = .stopped
      ∧ ((part (driveWith (starting ⟨false, none, 0⟩) .lost [])).drive .d0).spindle.condition = .starting
      ∧ (run.drive .d0).spindle.condition = .turning ∧ run.isFree .d0 = true
      ∧ (busy (readOf 9 .start) .pass (headAt 10)).isFree .d0 = false := by decide +kernel

/-- An ACTIVE request that is not in ROTATE. -/
theorem test_witness_AcceptanceAtTheDrive_notRotating :
    let s := busy (readOf 9 .start) .pass (headAt 10)
    ∀ u r p m, s.activeTag .d0 = some u → s.tag u ≠ .active r p .rotate m := by
  intro s u r p m hu h
  have h1 : s.activeTag .d0 = some 1 := by decide +kernel
  obtain rfl : (1 : TagNo) = u := Option.some.inj (h1.symm.trans hu)
  have h2 : s.tag 1 = act (readOf 9 .start) .pass := by decide +kernel
  rw [h2] at h
  cases h

theorem test_witness_DefineReplacesRecord :
    stopped.firstFailure ⟨0x02, 3, 15, [0, 96, 2, 24, 30, 60, 255, 50, 7, 15, 96]⟩ = none
      ∧ stopped.firstFailure ⟨0x02, 3, 0, [1, 1, 1, 4, 2, 5, 0, 2, 0, 0, 0]⟩ = none := by decide +kernel

theorem test_witness_QueryStoresSnapshot :
    rotating.firstFailure ⟨0x03, 3, 4, [1, 1]⟩ = none
      ∧ rotating.firstFailure ⟨0x03, 3, 4, [0, 0]⟩ = none := by decide +kernel

theorem test_witness_TrackReachedIsFixed :
    rotating.tag 2 = .queued (ask (.seek 22) 1) 0 ∧ (ask (.seek 22) 1).work = .seek 22
      ∧ (stopped.setTag 2 (.active (ask .recal 1) 0 .settle false)).tag 2
        = .active (ask .recal 1) 0 .settle false := by decide +kernel

theorem test_witness_AbortByTargetState :
    rotating.firstFailure ⟨0x20, 3, 2, []⟩ = none ∧ rotating.tag 2 = .queued (ask (.seek 22) 1) 0
      ∧ rotating.firstFailure ⟨0x20, 3, 1, []⟩ = none
      ∧ rotating.tag 1 = .active (ask (readOf 9 .start) 0) 0 .rotate false := by decide +kernel

/-- Targets in POSITION with a motion WAITING and STEPPING, and in SETTLE. -/
theorem test_witness_AbortByTargetState_motion :
    let s := fun ph h => busy (readOf 9 .start) ph h
    let target := fun ph => TagState.active (ask (readOf 9 .start) 0) 0 ph false
    let waits := s .position (headIn (.onTrack 4) (some 4) .seek 10 .waiting 0)
    let steps := s .position (headIn (.moving 10) (some 6) .seek 10 .stepping 0)
    let settles := s .settle (headIn (.settling 10) (some 10) .seek 10 .settling 0)
    waits.firstFailure ⟨0x20, 3, 1, []⟩ = none ∧ waits.tag 1 = target .position
      ∧ steps.firstFailure ⟨0x20, 3, 1, []⟩ = none ∧ steps.tag 1 = target .position
      ∧ settles.firstFailure ⟨0x20, 3, 1, []⟩ = none ∧ settles.tag 1 = target .settle := by
  decide +kernel

theorem test_witness_AbortByTargetState_pass :
    let s := passing (.format 10 0 0xE5) none (.formatting 0xE5 none 0 false)
    s.firstFailure ⟨0x20, 3, 1, []⟩ = none
      ∧ s.tag 1 = .active (ask (.format 10 0 0xE5) 0) 0 .pass false
      ∧ s.pass = some ⟨.d0, 10, 0, .tag 1, none, .formatting 0xE5 none 0 false⟩ := by decide +kernel

/-- A tag in each state that a RELEASE or a RESEND can find. -/
theorem test_witness_ReleaseByTargetState :
    stopped.session = 3 ∧ stopped.resetHold = none ∧ (15 : Byte).toNat < 16 ∧ stopped.tag 15 = .free
      ∧ rotating.tag 2 = .queued (ask (.seek 22) 1) 0
      ∧ rotating.tag 1 = .active (ask (readOf 9 .start) 0) 0 .rotate false
      ∧ (sending 3 false).tag 1 = .sending (ask (readOf 9 .start) 0) fine false
      ∧ (sending 3 true).tag 1 = .sending (ask (readOf 9 .start) 0) fine true
      ∧ (ended (.done (ask .recal 0) fine)).tag 1 = .done (ask .recal 0) fine
      ∧ (ended (.held (ask .recal 0) fine)).tag 1 = .held (ask .recal 0) fine := by decide +kernel

theorem test_witness_ResendByTargetState :
    (ended (.held (ask .recal 0) fine)).resetHold = none
      ∧ (ended (.held (ask .recal 0) fine)).session = 3
      ∧ (ended (.held (ask .recal 0) fine)).tag 1 = .held (ask .recal 0) fine := by decide +kernel

/-- The ends of the ranges: the pulse just passed, and the last sector. -/
theorem test_witness_WaitCountsPulses :
    (Position.sector 15).onTrack 16 = true ∧ (Pulse.sector 15).position.onTrack 16 = true
      ∧ waitFor (.sector 15) 16 (.sector 15) = 17 ∧ Pulse.index.position.onTrack 16 = true := by decide

theorem test_witness_DecisionFollowsSteps : (rotating.drive .d0).queue ≠ [] := by decide +kernel

/-- Age limit 3 met, a same-track SEEK, a transfer on the track, and the reversal of the sweep. -/
theorem test_witness_DecisionFollowsSteps_cases :
    let s := part (driveWith (spinning (.sector 5) 6) (headAt 10) [4, 2])
    let two := fun (x y : TagState) => tagged s [(4, x), (2, y)]
    (two (.queued (ask (.seek 10) 0) 0) (.queued (ask (.seek 22) 1) 3)).choose .d0 = some ⟨2, .inward⟩
      ∧ (two (.queued (ask (readOf 9 .start) 0) 0) (.queued (ask (.seek 10) 1) 0)).choose .d0
        = some ⟨2, .inward⟩
      ∧ (two (.queued (ask (readOf 3 .start) 0) 0) (.queued (ask (writeOf 9 false false) 1) 0)).choose .d0
        = some ⟨2, .inward⟩
      ∧ (two (.queued (ask (.seek 9) 0) 0) (.queued (ask (.seek 9) 1) 0)).choose .d0
        = some ⟨4, .outward⟩ := by decide +kernel

theorem test_witness_NewcomerOvertakes :
    (rotating.drive .d0).spindle.condition = .turning ∧ rotating.activeTag .d0 = some 1
      ∧ rotating.tag 2 = .queued (ask (.seek 22) 1) 0
      ∧ rotating.tag 1 = .active (ask (readOf 9 .start) 0) 0 .rotate false := by decide +kernel

/-- All six conditions of R42 hold of a READ of sector 6 that arrives at sector 5. -/
theorem test_witness_NewcomerOvertakes_may :
    let s := (rotating.setTag 4 (.queued (ask (readOf 6 .start) 5) 0)).setQueue .d0 [2, 4]
    s.MayOvertake .d0 4 (ask (readOf 6 .start) 5) (ask (readOf 9 .start) 0) 0 := by
  refine ⟨rfl, rfl, rfl, by decide +kernel, by decide +kernel, ?_⟩
  decide +kernel

theorem test_witness_NoWorkLeftOnFreeDrive :
    let s := part (driveWith (spinning (.sector 5) 6) (headAt 10) [])
    (s.afterFree .d0).isTurning .d0 = true ∧ (s.afterFree .d0).isFree .d0 = true := by decide +kernel

theorem test_witness_SpinUpMeasures :
    let s := fun m => part (driveWith (starting m) .lost [])
    ((s ⟨false, none, 3⟩).drive .d0).spindle.measure = some ⟨false, none, 3⟩
      ∧ ((s ⟨true, none, 16⟩).drive .d0).spindle.measure = some ⟨true, none, 16⟩
      ∧ ((s ⟨true, some 3200, 255⟩).drive .d0).spindle.condition = .starting
      ∧ 32 * ((3300 : Int) - 3200).natAbs ≤ 3200 ∧ ¬ 32 * ((3301 : Int) - 3200).natAbs ≤ 3200
      ∧ (stopped.drive .d0).spindle.condition = .stopped
      ∧ (State.reset.drive .d0).spindle.condition = .undefined := by decide +kernel

/-- Positions INDEX, 14 and 15 of sixteen sectors, with the counts that belong to them. -/
theorem test_witness_TurningPulses :
    let s := fun pos n => part (driveWith (spinning pos n) (headAt 10) [])
    ((s (.sector 15) 16).drive .d0).spindle.revCount = some ((s (.sector 15) 16).geometry .d0).sectors
      ∧ ((s (.sector 14) 15).drive .d0).spindle.revCount
        ≠ some ((s (.sector 14) 15).geometry .d0).sectors
      ∧ ((s .index 0).drive .d0).spindle.position = .index
      ∧ 14 + 1 < ((s (.sector 14) 15).geometry .d0).sectors
      ∧ ((s (.sector 15) 16).geometry .d0).sectors ≤ 15 + 1 := by decide +kernel

theorem test_witness_SpindleTimersExpire :
    ((part (driveWith (starting ⟨true, none, 3⟩) .lost [])).drive .d0).spindle.spinUpTimer = some 15000
      ∧ (rotating.drive .d0).spindle.watchdog = some 3336
      ∧ ((part (driveWith { spinning .index 0 with runOnTimer := some 20000 } .lost [])).drive
          .d0).spindle.runOnTimer = some 20000 := by decide +kernel

theorem test_witness_OtherSpindleUntouched :
    ∃ t, exec (.indexPulse quiet .d0 1668) rotating = .next t := ⟨_, rfl⟩

theorem test_witness_SeekSteps :
    let s := fun p => busy (readOf 9 .start) .position (headIn (.moving 10) (some p) .seek 10 .stepping 0)
    ((s 9).drive .d0).head.stepTimer = some 60 ∧ ((s 9).drive .d0).head.running = some 9
      ∧ ((s 11).drive .d0).head.running = some 11 ∧ ((s 10).drive .d0).head.running = some 10
      ∧ ((s 10).drive .d0).head.motion = some ⟨.seek, 10, .tag 1, .stepping, 0⟩ := by decide +kernel

/-- The step counts 87 and 88 of T = 80, and the targets 0 and 10. -/
theorem test_witness_RecalibrationChecks :
    let s := fun n => busy (readOf 9 .start) .position (headIn (.moving 10) none .recal n .stepping 0)
    let c := fun n => busy (readOf 9 .start) .position (headIn (.moving 10) none .recal 0 .stepping n)
    ((s 0).drive .d0).head.motion = some ⟨.recal, 0, .tag 1, .stepping, 0⟩
      ∧ ((s 10).drive .d0).head.motion = some ⟨.recal, 10, .tag 1, .stepping, 0⟩
      ∧ ((s 10).drive .d0).head.running = none ∧ ((s 10).drive .d0).head.stepTimer = some 60
      ∧ (s 10).list.countP (Entry.isEventOf .d0) ≤ 1
      ∧ 87 < ((c 87).geometry .d0).tracks + 8 ∧ ((c 88).geometry .d0).tracks + 8 ≤ 88 := by decide +kernel

theorem test_witness_SettleEnds :
    let s := busy (.seek 10) .settle (headIn (.settling 10) (some 10) .seek 10 .settling 0)
    (s.drive .d0).head.settleTimer = some 150
      ∧ (s.drive .d0).head.motion = some ⟨.seek, 10, .tag 1, .settling, 0⟩
      ∧ s.tag 1 = .active (ask (.seek 10) 0) 0 .settle false := by decide +kernel

/-- A STEP need of drive 0 alone, with the bus free. -/
theorem test_witness_StepNeedsAreGranted :
    let s := busy (readOf 9 .start) .position (headIn (.onTrack 4) (some 4) .seek 10 .waiting 0)
    s.bus.holder = none ∧ s.CanStep .d0 ∧ ¬ s.CanStep .d1 ∧ rotating.bus.holder = none
      ∧ ¬ rotating.CanStep .d0 := by
  refine ⟨rfl, ⟨⟨_, rfl, rfl⟩, nofun⟩, ?_, rfl, ?_⟩
  · rintro ⟨⟨m, h, -⟩, -⟩
    cases h
  · rintro ⟨⟨m, h, -⟩, -⟩
    cases h

/-- Both drives have a need, and the alternation memory is NONE. -/
theorem test_witness_StepNeedsAreGranted_both :
    let h := headIn (.onTrack 4) (some 4) .seek 10 .waiting 0
    let s := { stopped with units := ⟨driveWith (spinning .index 0) h [], driveWith (spinning .index 0) h []⟩ }
    s.bus.holder = none ∧ s.CanStep .d0 ∧ s.CanStep .d1 ∧ s.bus.alternation = none :=
  ⟨rfl, ⟨⟨_, rfl, rfl⟩, nofun⟩, ⟨⟨_, rfl, rfl⟩, nofun⟩, rfl⟩

theorem test_witness_PassNeedIsJudged :
    let s := busy (writeOf 9 false false) .rotate (headAt 10)
    let due := (ask (writeOf 9 false false) 0).duePass 1
    s.activeTag .d0 = some 1 ∧ s.tag 1 = .active (ask (writeOf 9 false false) 0) 0 .rotate false
      ∧ due = some ⟨.d0, 10, 0, .tag 1, some 0, .writing 9 .gateOpen⟩
      ∧ (ask (writeOf 9 false false) 0).work.startingPulse = some (.sector 9)
      ∧ s.bus.holder = none ∧ s.bus.reservation = none ∧ s.levels.wprot.get .d0 = false
      ∧ ({ s with levels := asserted } : State).levels.wprot.get .d0 = true := by decide +kernel

theorem test_witness_ReadPassListens :
    let s := fun st => passing (readOf 9 .start) (some 0) (.reading false 9 st)
    (s .searching).resetHold = none ∧ (s .searching).pass.isSome = true
      ∧ (s (.reading true)).pass = some ⟨.d0, 10, 0, .tag 1, some 0, .reading false 9 (.reading true)⟩
      ∧ rotating.pass = none := by decide +kernel

theorem test_witness_WrittenRecordCounts :
    let p : Pass := ⟨.d0, 10, 0, .tag 1, some 0, .writing 9 .gateOpen⟩
    (passing (writeOf 9 true false) (some 0) (.writing 9 .gateOpen)).pass = some p
      ∧ (passing (.format 10 0 0xE5) none (.formatting 0xE5 (some ⟨15, .gateOpen⟩) 15 true)).pass.map
          (·.body) = some (.formatting 0xE5 (some ⟨15, .gateOpen⟩) 15 true)
      ∧ (passing (writeOf 9 true false) (some 0) (.writing 9 .gateOpen)).tag 1
        = .active (ask (writeOf 9 true false) 0) 0 .pass false := by decide +kernel

theorem test_witness_OutcomeAtEndingPulse :
    let s := passing (readOf 9 .start) (some 0) (.reading false 9 .searching)
    s.pass = some ⟨.d0, 10, 0, .tag 1, some 0, .reading false 9 .searching⟩
      ∧ s.tag 1 = .active (ask (readOf 9 .start) 0) 0 .pass false
      ∧ (passing (.format 10 0 0xE5) none (.formatting 0xE5 none 0 false)).pass.map (·.body)
        = some (.formatting 0xE5 none 0 false) := by decide +kernel

/-- Retry limit 2: the last attempt, the second ID mismatch in a row, and a first failure. -/
theorem test_witness_LadderSteps :
    let s := fun l => passing (readOf 9 l) (some 0) (.reading false 9 .searching)
    (s ⟨2, 1, false⟩).tag 1 = .active (ask (readOf 9 ⟨2, 1, false⟩) 0) 0 .pass false
      ∧ (readOf 9 ⟨2, 1, false⟩).ladder? = some ⟨2, 1, false⟩
      ∧ ((s ⟨2, 1, false⟩).geometry .d0).retryLimit = 2
      ∧ ((s ⟨2, 1, false⟩).failAttempt 1 (ask (readOf 9 ⟨2, 1, false⟩) 0) false .idMismatch).tag 1
        = .done (ask (readOf 9 ⟨3, 2, false⟩) 0) ⟨.idMismatch, none⟩
      ∧ ((s ⟨1, 1, false⟩).failAttempt 1 (ask (readOf 9 ⟨1, 1, false⟩) 0) false .idMismatch).tag 1
        = .active (ask (readOf 9 ⟨2, 0, true⟩) 0) 0 .position false
      ∧ ((s .start).failAttempt 1 (ask (readOf 9 .start) 0) false .dataCheck).tag 1
        = .active (ask (readOf 9 ⟨1, 0, false⟩) 0) 0 .rotate false := by decide +kernel

/-- A miss by a held bus and by the other drive's reservation; a pulse that is not the starting pulse. -/
theorem test_witness_PassNeedIsJudged_miss :
    let s := { rotating with bus := ⟨some ⟨.d1, .step⟩, none, some .d1⟩ }
    let u := { rotating with bus := ⟨none, some .d1, none⟩ }
    s.activeTag .d0 = some 1 ∧ s.bus.holder ≠ none ∧ u.bus.reservation = some Drive.d0.other
      ∧ (ask (readOf 9 .start) 0).work.startingPulse ≠ some (.sector 8)
      ∧ ((ask (readOf 9 .start) 0).duePass 1).map Pass.writes = some false := by decide +kernel

/-- A STEP need of each kind of recalibration, with track 0 shown and not. -/
theorem test_witness_StepNeedsAreGranted_recal :
    let s := busy .recal .position (headIn (.onTrack 4) (some 4) .recal 0 .waiting 0)
    s.CanStep .d0 ∧ s.levels.trk0.get .d0 = false
      ∧ ({ s with levels := asserted } : State).levels.trk0.get .d0 = true
      ∧ 0 < (s.geometry .d0).tracks + 8 := by
  refine ⟨⟨⟨_, rfl, rfl⟩, nofun⟩, ?_⟩
  decide +kernel

/-- A detached pass, an owner under the abort-pending mark, and a pass of the other drive. -/
theorem test_witness_OutcomeAtEndingPulse_owners :
    let s := passing (readOf 9 .start) (some 0) (.reading false 9 (.decided .ok (some (block 7))))
    let marked := s.setTag 1 (.active (ask (readOf 9 .start) 0) 0 .pass true)
    (s.pass.map Pass.detach).map (·.owner) = some .detached
      ∧ marked.tag 1 = .active (ask (readOf 9 .start) 0) 0 .pass true
      ∧ marked.pass.map (·.owner) = some (.tag 1) ∧ s.pass.map (·.drive) ≠ some .d1 := by decide +kernel

theorem test_witness_RecordLayout :
    let p : Pass := ⟨.d0, 7, 1, .detached, none, .reading false 5 (.reading true)⟩
    p.track = 7 ∧ p.side = 1 ∧ p.body = .reading false 5 (.reading true) := ⟨rfl, rfl, rfl⟩

/-! ### Witnesses for the invariants -/

/-- The rotating part with a command waiting. -/
def waiting : State := { rotating with pending := [.sectorPulse quiet .d0] }

theorem waiting_tag (t : TagNo) : waiting.tag t =
    if t = 1 then act (readOf 9 .start) .rotate
    else if t = 2 then .queued (ask (.seek 22) 1) 0 else .free :=
  busy_tag (readOf 9 .start) .rotate (headAt 10) t

theorem waiting_tag_cases {t : TagNo} {x : TagState} (h : waiting.tag t = x) :
    t = 1 ∧ x = act (readOf 9 .start) .rotate ∨ t = 2 ∧ x = .queued (ask (.seek 22) 1) 0
      ∨ t ≠ 1 ∧ t ≠ 2 ∧ x = .free := by
  rw [waiting_tag] at h
  by_cases h1 : t = 1
  · exact .inl ⟨h1, by rw [← h, if_pos h1]⟩
  · by_cases h2 : t = 2
    · exact .inr (.inl ⟨h2, by rw [← h, if_neg h1, if_pos h2]⟩)
    · exact .inr (.inr ⟨h1, h2, by rw [← h, if_neg h1, if_neg h2]⟩)

theorem test_waiting_transmitOk : waiting.TransmitOk where
  notices := by decide +kernel
  started := by decide +kernel
  events := by intro d; cases d <;> decide +kernel
  replies := by decide +kernel
  entries := nofun
  stall := by decide +kernel
  sending := fun _ => by decide +kernel
  idle := fun _ _ _ => rfl

theorem test_waiting_busOk : waiting.BusOk where
  selected := by intro d; cases d <;> decide +kernel
  passHolds := nofun
  stepHolds := by
    intro d m h
    cases d <;> cases h
  gate := by decide +kernel
  comp := nofun
  data := fun _ => rfl

theorem test_waiting_queueOk : waiting.QueueOk where
  member := by intro d; cases d <;> decide +kernel
  nodup := by intro d; cases d <;> decide +kernel
  order := by intro d; cases d <;> decide +kernel
  stamps := by
    intro t r h
    rcases waiting_tag_cases (t := t) rfl with ⟨-, hx⟩ | ⟨-, hx⟩ | ⟨-, -, hx⟩ <;> rw [hx] at h <;> cases h
    · decide
    · decide
  single := by intro d; cases d <;> decide +kernel
  aged := by intro d; cases d <;> decide +kernel

theorem test_waiting_drivesOk : waiting.DrivesOk where
  record := by
    intro d
    cases d
    · exact (by decide : geo.inRange = true)
    · rfl
  spindle := by intro d; cases d <;> decide +kernel
  stats := by intro d; cases d <;> decide +kernel

theorem test_waiting_workOk : waiting.WorkOk where
  active := by
    intro t r p ph m h
    rcases waiting_tag_cases h with ⟨rfl, hx⟩ | ⟨-, hx⟩ | ⟨-, -, hx⟩
    · cases hx
      decide +kernel
    · cases hx
    · cases hx
  tracks := by
    intro d t h w hw
    rcases waiting_tag_cases (t := t) rfl with ⟨rfl, hx⟩ | ⟨rfl, hx⟩ | ⟨-, -, hx⟩
    · cases d
      · cases hw
        decide +kernel
      · exact absurd h (by decide +kernel)
    · cases d
      · cases hw
        decide +kernel
      · exact absurd h (by decide +kernel)
    · rw [State.work?, hx] at hw
      cases hw
  motionOwner := by
    intro d m h
    cases d <;> cases h
  passOwner := nofun
  detachedMotion := by
    intro d m h
    cases d <;> cases h
  detachedPass := nofun
  head := by intro d; cases d <;> decide +kernel
  idleWork := by intro d; cases d <;> decide +kernel
  runOn := by intro d; cases d <;> decide +kernel
  waiting := by intro d; cases d <;> decide +kernel
  defined := by
    intro d
    cases d
    · exact ⟨(by decide : geo.inRange = true), nofun⟩
    · rfl
  reserved := nofun
  held := nofun
  granted := by decide +kernel
  bound := by decide +kernel
  boundDetached := by decide +kernel
  closed := by decide +kernel
  accepted := by
    intro t r h _
    rcases waiting_tag_cases (t := t) rfl with ⟨-, hx⟩ | ⟨-, hx⟩ | ⟨-, -, hx⟩ <;> rw [hx] at h <;> cases h
    · rfl
    · rfl

/-- A part that is coherent and at work, and steps (every invariant of `CoherentIsKept`, and with it those of
`TransmitListIsKept`, `QueuesAreKept`, `DrivesAreKept` and `BusIsKept`). -/
theorem test_witness_CoherentIsKept : waiting.Coherent ∧ ∃ t, step waiting = .next t :=
  ⟨⟨test_waiting_transmitOk, by decide +kernel, test_waiting_busOk, test_waiting_queueOk,
    test_waiting_drivesOk, fun _ => test_waiting_workOk⟩, _, rfl⟩

theorem test_witness_TransmitListIsKept : waiting.TransmitOk ∧ ∃ t, step waiting = .next t :=
  ⟨test_waiting_transmitOk, _, rfl⟩

theorem test_witness_QueuesAreKept : waiting.QueueOk ∧ ∃ t, step waiting = .next t :=
  ⟨test_waiting_queueOk, _, rfl⟩

theorem test_witness_DrivesAreKept : waiting.DrivesOk ∧ ∃ t, step waiting = .next t :=
  ⟨test_waiting_drivesOk, _, rfl⟩

theorem test_witness_BusIsKept : waiting.BusOk ∧ ∃ t, step waiting = .next t :=
  ⟨test_waiting_busOk, _, rfl⟩

theorem test_witness_DriveFailureEffects :
    waiting.QueueOk ∧ waiting.list.countP (Entry.isEventOf .d0) ≤ 1
      ∧ waiting.tag 1 = .active (ask (readOf 9 .start) 0) 0 .rotate false
      ∧ waiting.tag 2 = .queued (ask (.seek 22) 1) 0 ∧ (ask (.seek 22) 1).drive = .d0 :=
  ⟨test_waiting_queueOk, by decide +kernel, by decide +kernel, by decide +kernel, rfl⟩

theorem test_witness_DecisionStartsAndAges :
    waiting.QueueOk ∧ waiting.choose .d0 = some ⟨2, .inward⟩
      ∧ waiting.tag 2 = .queued (ask (.seek 22) 1) 0 :=
  ⟨test_waiting_queueOk, by decide +kernel, by decide +kernel⟩

/-- Nothing at work, and tag 1 HELD with a READ whose data are in buffer 0. -/
def keeping : State := (ended (.held (ask (readOf 9 .start) 0) fine)).bindBuffer 0 (.tag 1)

theorem keeping_tag (t : TagNo) :
    keeping.tag t = if t = 1 then .held (ask (readOf 9 .start) 0) fine else .free := by
  revert t
  decide +kernel

theorem keeping_request {t : TagNo} {r : Request} (h : (keeping.tag t).request? = some r) :
    r = ask (readOf 9 .start) 0 := by
  rw [keeping_tag] at h
  by_cases h1 : t = 1
  · rw [if_pos h1] at h
    exact (Option.some.inj h).symm
  · rw [if_neg h1] at h
    cases h

theorem keeping_not_active (t : TagNo) (r : Request) (p : Nat) (ph : Phase) (m : Bool) :
    keeping.tag t ≠ .active r p ph m := by
  rw [keeping_tag]
  by_cases h1 : t = 1
  · rw [if_pos h1]
    nofun
  · rw [if_neg h1]
    nofun

theorem test_keeping_workOk : keeping.WorkOk where
  active := fun t r p ph m h => absurd h (keeping_not_active t r p ph m)
  tracks := by
    intro d t h
    exact absurd h (by revert d t; intro d; cases d <;> decide +kernel)
  motionOwner := by
    intro d m h
    cases d <;> cases h
  passOwner := nofun
  detachedMotion := by
    intro d m h
    cases d <;> cases h
  detachedPass := nofun
  head := by intro d; cases d <;> decide +kernel
  idleWork := by intro d; cases d <;> decide +kernel
  runOn := by intro d; cases d <;> decide +kernel
  waiting := by intro d; cases d <;> decide +kernel
  defined := by
    intro d
    cases d
    · exact ⟨(by decide : geo.inRange = true), nofun⟩
    · rfl
  reserved := nofun
  held := nofun
  granted := by decide +kernel
  bound := by decide +kernel
  boundDetached := by decide +kernel
  closed := by decide +kernel
  accepted := fun t r h _ => by rw [keeping_request h]; rfl

theorem test_keeping_coherent : keeping.Coherent where
  transmit :=
    { notices := by decide +kernel
      started := by decide +kernel
      events := by intro d; cases d <;> decide +kernel
      replies := by decide +kernel
      entries := nofun
      stall := by decide +kernel
      sending := fun _ => by decide +kernel
      idle := fun _ _ _ => rfl }
  receiver := by decide +kernel
  bus :=
    { selected := by intro d; cases d <;> decide +kernel
      passHolds := nofun
      stepHolds := by
        intro d m h
        cases d <;> cases h
      gate := by decide +kernel
      comp := nofun
      data := fun _ => rfl }
  queues :=
    { member := by intro d; cases d <;> decide +kernel
      nodup := by intro d; cases d <;> decide +kernel
      order := by intro d; cases d <;> decide +kernel
      stamps := fun t r h => by rw [keeping_request h]; decide
      single := by intro d; cases d <;> decide +kernel
      aged := by intro d; cases d <;> decide +kernel }
  drives :=
    { record := by
        intro d
        cases d
        · exact (by decide : geo.inRange = true)
        · rfl
      spindle := by intro d; cases d <;> decide +kernel
      stats := by intro d; cases d <;> decide +kernel }
  work := fun _ => test_keeping_workOk

/-- A HELD tag under each outcome of the statement: FREE by RELEASE, a new request, and kept by RESEND. -/
theorem test_witness_TrackReachedIsFixed_kept :
    keeping.Coherent ∧ (keeping.tag 1).final? = some (ask (readOf 9 .start) 0, fine)
      ∧ (after (.release 3 1 []) keeping).tag 1 = .free
      ∧ (after (.define 3 1 [1, 40, 1, 16, 6, 15, 0, 20, 2, 3, 96]) keeping).tag 1
        = .sending ⟨.define, .d1, 3, 8, 0⟩ fine false
      ∧ (after (.resend 3 1 []) keeping).tag 1 = .sending (ask (readOf 9 .start) 0) fine false := by
  refine ⟨test_keeping_coherent, ?_⟩
  decide +kernel

end Sys2Proof.Tests
end

/-! ## The acceptance checks, RELEASE and RESEND by target state

The checks of the Request Table are the rows of Table 1-3 run in order. `runChecks` runs a list of such rows;
each check function of the model is equal to a run of its rows, so a frame is refused for the reason of the
first row that fails. -/

namespace Sys2Proof.Machine

/-! ### Rows of Table 1-3 run in order -/

/-- Rows run in order: the first one that fails gives the error, and the value stands when all pass. -/
def runChecks {α : Type} : List (Bool × Reason) → α → Except Reason α
  | [], a => .ok a
  | (fails, e) :: rows, a => if fails then .error e else runChecks rows a

@[simp] theorem runChecks_nil {α : Type} (a : α) : runChecks [] a = .ok a := rfl

@[simp] theorem runChecks_cons_true {α : Type} (e : Reason) (rows : List (Bool × Reason)) (a : α) :
    runChecks ((true, e) :: rows) a = .error e := rfl

@[simp] theorem runChecks_cons_false {α : Type} (e : Reason) (rows : List (Bool × Reason)) (a : α) :
    runChecks ((false, e) :: rows) a = runChecks rows a := rfl

/-- A check that runs its rows, followed by one that runs its own on the value of the first. -/
theorem runChecks_bind {α β : Type} {check : Except Reason α} {rows rest : List (Bool × Reason)} {a : α}
    {b : β} {next : α → Except Reason β} (hc : check = runChecks rows a) (hn : next a = runChecks rest b) :
    (check >>= next) = runChecks (rows ++ rest) b := by
  subst hc
  induction rows with
  | nil => exact hn
  | cons row rows ih =>
    obtain ⟨fails, e⟩ := row
    cases fails
    · exact ih
    · rfl

theorem runChecks_pure {α : Type} (a : α) : (pure a : Except Reason α) = runChecks [] a := rfl

/-- Two neighbouring rows with one reason are one row. -/
theorem runChecks_merge {α : Type} (p q : Bool) (e : Reason) (rows : List (Bool × Reason)) (a : α) :
    runChecks ((p, e) :: (q, e) :: rows) a = runChecks ((p || q, e) :: rows) a := by
  cases p <;> rfl

theorem runChecks_append_congr {α : Type} {l m : List (Bool × Reason)} {a : α}
    (h : runChecks l a = runChecks m a) : ∀ rows : List (Bool × Reason),
      runChecks (rows ++ l) a = runChecks (rows ++ m) a
  | [] => h
  | (false, _) :: rows => runChecks_append_congr h rows
  | (true, _) :: _ => rfl

/-- The rows give the reason of the first one that fails. -/
theorem runChecks_error {α : Type} {rows : List (Bool × Reason)} {a : α} {e : Reason} :
    runChecks rows a = .error e ↔ (rows.find? (·.1)).map (·.2) = some e := by
  induction rows with
  | nil => simp
  | cons row rows ih =>
    obtain ⟨fails, r⟩ := row
    cases fails
    · simpa using ih
    · simp

/-- A check with one condition is one row. -/
theorem runChecks_of_ite {α : Type} (p : Prop) [Decidable p] (e : Reason) (a : α) :
    (if p then .ok a else .error e) = runChecks [(!decide p, e)] a := by
  by_cases h : p <;> simp [h]

/-! ### Each check of the model as its rows -/

/-- Checks 1 to 5 of Table 1-3, which every kind of frame but OPEN runs. -/
def State.headerRows (s : State) (f : Frame) : List (Bool × Reason) :=
  [((bodyLength f.kind).isNone, .unknownKind),
   (bodyLength f.kind != some f.body.length, .badLength),
   (s.session == 0, .notOpen),
   (f.session != s.session, .stale),
   (decide (16 ≤ f.tag.toNat), .badTag)]

/-- Checks 6 and 7 of Table 1-3. -/
def State.requestRows (s : State) (f : Frame) : List (Bool × Reason) :=
  [((s.tag f.tagNo).busy, .tagBusy), (decide (1 < (f.byte 0).toNat), .badDrive)]

/-- Checks 8 to 11 of Table 1-3. -/
def State.acceptRows (s : State) (f : Frame) : List (Bool × Reason) :=
  [(f.kind != 0x02 && f.kind != 0x03 && (s.drive f.driveNo).spindle.condition == .undefined, .notDefined),
   (!paramsInRange (s.geometry f.driveNo) f, .outOfRange),
   ((f.kind == 0x10 || f.kind == 0x11) && (List.finRange 8).all fun b => !s.freeFor f.tagNo b, .noBuffer),
   (f.kind == 0x02 && !s.isIdle f.driveNo, .driveBusy)]

theorem State.checks_of_request {s : State} {f : Frame} (h : isControl f.kind = false) :
    s.checks f = s.headerRows f ++ s.requestRows f ++ s.acceptRows f := by
  simp only [State.checks, h]
  rfl

/-- The row of a control message: its target's state refuses it or not (Table 1-7). -/
def State.targetRow (s : State) (kind : Byte) (t : TagNo) : List (Bool × Reason) :=
  match (s.tag t).refuses kind with
  | some e => [(true, e)]
  | none => []

theorem State.targetRow_error {α : Type} {s : State} {kind : Byte} {t : TagNo} {a : α} {e : Reason} :
    runChecks (s.targetRow kind t) a = .error e ↔ (s.tag t).refuses kind = some e := by
  unfold State.targetRow
  cases (s.tag t).refuses kind <;> simp

theorem State.checks_of_control {s : State} {f : Frame} (h : isControl f.kind = true) :
    s.checks f = s.headerRows f ++ s.targetRow f.kind f.tagNo := by
  simp only [State.checks, h, if_true]
  rfl

theorem checkHeader_eq {s : State} {f : Frame} {n : Nat} (h : bodyLength f.kind = some n) :
    checkHeader s f n = runChecks (s.headerRows f) f.tagNo := by
  have htag : ∀ ht : f.tag.toNat < 16, f.tagNo = ⟨f.tag.toNat, ht⟩ := fun ht =>
    Fin.ext (Nat.mod_eq_of_lt ht)
  simp only [checkHeader, State.headerRows, runChecks, h, Option.isNone_some, Bool.false_eq_true, if_false,
    decide_eq_true_eq, beq_iff_eq, bne_iff_ne, ne_eq, Option.some.injEq, eq_comm (a := n)]
  by_cases ht : f.tag.toNat < 16
  · simp only [ht, dif_pos, not_le.mpr ht, if_false, htag ht]
  · simp only [ht, dif_neg, not_lt.mp ht, if_true, not_false_eq_true]

theorem checkTagState_eq (s : State) (t : TagNo) :
    checkTagState s t = runChecks [((s.tag t).busy, .tagBusy)] () := by
  unfold checkTagState TagState.busy
  cases s.tag t <;> rfl

theorem driveOf_eq (f : Frame) :
    driveOf (f.byte 0) = runChecks [(decide (1 < (f.byte 0).toNat), .badDrive)] f.driveNo := by
  unfold driveOf Frame.driveNo
  by_cases h0 : f.byte 0 = 0
  · simp [h0]
  · by_cases h1 : f.byte 0 = 1
    · simp [h1]
    · have h : 1 < (f.byte 0).toNat := by bv_omega
      rw [if_neg h0, if_neg h1, decide_eq_true h, runChecks_cons_true]

theorem checkDefined_eq (s : State) (d : Drive) :
    checkDefined s d = runChecks [((s.drive d).spindle.condition == .undefined, .notDefined)] () := by
  unfold checkDefined
  by_cases h : (s.drive d).spindle.condition = .undefined
  · simp [h]
  · rw [if_neg h, beq_false_of_ne h]
    rfl

theorem checkRequest_eq {s : State} {f : Frame} {n : Nat} (h : bodyLength f.kind = some n) :
    checkRequest s f n = runChecks (s.headerRows f ++ s.requestRows f) (f.tagNo, f.driveNo) :=
  runChecks_bind (checkHeader_eq h)
    (runChecks_bind (checkTagState_eq s _) (runChecks_bind (driveOf_eq f) (runChecks_pure _)))

theorem checkQueued_eq {s : State} {f : Frame} {n : Nat} (h : bodyLength f.kind = some n) :
    checkQueued s f n = runChecks (s.headerRows f ++ s.requestRows f ++
      [((s.drive f.driveNo).spindle.condition == .undefined, .notDefined)]) (f.tagNo, f.driveNo) :=
  runChecks_bind (checkRequest_eq h) (runChecks_bind (checkDefined_eq s _) (runChecks_pure _))

theorem sectorOperand_eq (g : DriveRecord) (f : Frame) :
    sectorOperand g f = runChecks [(!decide ((f.byte 1).toNat < g.tracks ∧ (f.byte 2).toNat < g.sides
      ∧ (f.byte 3).toNat < g.sectors), .outOfRange)] f.sectorAddr :=
  runChecks_of_ite _ _ _

theorem formatOperand_eq (g : DriveRecord) (f : Frame) :
    formatOperand g f = runChecks [(!decide ((f.byte 1).toNat < g.tracks ∧ (f.byte 2).toNat < g.sides),
      .outOfRange)] ((f.byte 1).toNat, (f.byte 2).toNat) :=
  runChecks_of_ite _ _ _

theorem seekOperand_eq (g : DriveRecord) (f : Frame) :
    seekOperand g f =
      runChecks [(!decide ((f.byte 1).toNat < g.tracks), .outOfRange)] (f.byte 1).toNat :=
  runChecks_of_ite _ _ _

theorem flagOperand_eq (b : Byte) :
    flagOperand b = runChecks [(!decide (b.toNat ≤ 1), .outOfRange)] (b == 0x01) := by
  unfold flagOperand flagOf
  by_cases h0 : b = 0
  · simp [h0]
  · by_cases h1 : b = 1
    · simp [h1]
    · have h : ¬ b.toNat ≤ 1 := by bv_omega
      rw [if_neg h0, if_neg h1, decide_eq_false h]
      rfl

/-- The ranges of Table 3-2, where a run-on value of one byte is always in range. -/
theorem recordOperand_eq {f : Frame} (g : DriveRecord) (h : f.kind = 0x02) :
    recordOperand f = runChecks [(!paramsInRange g f, .outOfRange)] (recordOf f) := by
  have hr : (recordOf f).inRange = paramsInRange g f := by
    have hb : (f.byte 6).toNat ≤ 255 := by bv_omega
    rw [Bool.eq_iff_iff]
    simp only [DriveRecord.inRange, Bool.and_eq_true, decide_eq_true_eq]
    simp [recordOf, paramsInRange, h, hb, and_assoc]
  rw [recordOperand, runChecks_of_ite, hr]
  simp

theorem checkIdle_eq (s : State) (d : Drive) :
    checkIdle s d = runChecks [(!s.isIdle d, .driveBusy)] () := by
  rw [checkIdle, runChecks_of_ite, Bool.decide_eq_true]

/-- A buffer is free after the implicit release exactly if an acceptance on the tag may bind it (R11). -/
theorem State.releaseHeld_free_iff {s : State} {t : TagNo} {b : BufNo} :
    ((s.releaseHeld t).buffer b).binding = .free ↔ s.freeFor t b = true := by
  obtain ⟨-, -, hbuf, -⟩ := State.releaseHeld_spec s t
  obtain ⟨-, hbind⟩ := hbuf b
  rw [hbind, State.freeFor]
  by_cases h : (s.tag t).holds b = true <;> simp [h]

/-- The buffer an acceptance on the tag binds; buffer 0 stands in when there is none (R128). -/
def State.boundFor (s : State) (t : TagNo) : BufNo := (s.releaseHeld t).lowestFree.getD 0

theorem checkBuffer_eq (s : State) (t : TagNo) :
    checkBuffer s t =
      runChecks [((List.finRange 8).all fun b => !s.freeFor t b, .noBuffer)] (s.boundFor t) := by
  have hnone : (s.releaseHeld t).lowestFree = none ↔
      ((List.finRange 8).all fun b => !s.freeFor t b) = true := by
    simp [State.lowestFree_none, State.releaseHeld_free_iff]
  rcases hb : (s.releaseHeld t).lowestFree with _ | b
  · rw [hnone.mp hb, checkBuffer, hb]
    rfl
  · have hsome : ((List.finRange 8).all fun b => !s.freeFor t b) = false := by
      rw [← Bool.not_eq_true, ← hnone, hb]
      nofun
    rw [hsome, checkBuffer, hb, State.boundFor, hb]
    rfl

/-! ### Each kind's checks as the rows of Table 1-3 -/

/-- DEFINE and QUERY: checks 2 to 7, then the rows of their own. -/
theorem checkRequest_bind {α : Type} {s : State} {f : Frame} {n : Nat} {rest : List (Bool × Reason)} {a : α}
    {next : TagNo × Drive → Except Reason α} (hlen : bodyLength f.kind = some n)
    (hkind : isControl f.kind = false) (hnext : next (f.tagNo, f.driveNo) = runChecks rest a)
    (hrows : runChecks rest a = runChecks (s.acceptRows f) a) :
    (checkRequest s f n >>= next) = runChecks (s.checks f) a := by
  rw [State.checks_of_request hkind]
  exact runChecks_bind (checkRequest_eq hlen) (hnext.trans hrows)

/-- The queued kinds: checks 2 to 8, then the rows of their own. -/
theorem checkQueued_bind {α : Type} {s : State} {f : Frame} {n : Nat} {rest : List (Bool × Reason)} {a : α}
    {next : TagNo × Drive → Except Reason α} (hlen : bodyLength f.kind = some n)
    (hkind : isControl f.kind = false) (hnext : next (f.tagNo, f.driveNo) = runChecks rest a)
    (hrows : runChecks (((s.drive f.driveNo).spindle.condition == .undefined, .notDefined) :: rest) a
      = runChecks (s.acceptRows f) a) :
    (checkQueued s f n >>= next) = runChecks (s.checks f) a := by
  rw [runChecks_bind (checkQueued_eq hlen) hnext, State.checks_of_request hkind, List.append_assoc]
  exact runChecks_append_congr hrows _

theorem checkRead_eq {s : State} {f : Frame} (h : f.kind = 0x10) :
    checkRead s f = runChecks (s.checks f)
      ⟨f.tagNo, f.driveNo, .read f.sectorAddr (s.boundFor f.tagNo) .start⟩ :=
  checkQueued_bind (by rw [h]; rfl) (by rw [h]; rfl)
    (runChecks_bind (sectorOperand_eq _ f) (runChecks_bind (checkBuffer_eq s _) (runChecks_pure _)))
    (by simp [State.acceptRows, paramsInRange, h, runChecks])

theorem checkWrite_eq {s : State} {f : Frame} (h : f.kind = 0x11) :
    checkWrite s f = runChecks (s.checks f)
      ⟨f.tagNo, f.driveNo,
        .write f.sectorAddr (f.byte 4 == 0x01) (s.boundFor f.tagNo) .start false⟩ :=
  checkQueued_bind (by rw [h]; rfl) (by rw [h]; rfl)
    (runChecks_bind (sectorOperand_eq _ f) (runChecks_bind (flagOperand_eq _)
      (runChecks_bind (checkBuffer_eq s _) (runChecks_pure _))))
    (by simp [State.acceptRows, paramsInRange, h, runChecks, runChecks_merge, or_assoc])

theorem checkVerify_eq {s : State} {f : Frame} (h : f.kind = 0x12) :
    checkVerify s f = runChecks (s.checks f) ⟨f.tagNo, f.driveNo, .verify f.sectorAddr .start⟩ :=
  checkQueued_bind (by rw [h]; rfl) (by rw [h]; rfl)
    (runChecks_bind (sectorOperand_eq _ f) (runChecks_pure _))
    (by simp [State.acceptRows, paramsInRange, h, runChecks])

theorem checkFormat_eq {s : State} {f : Frame} (h : f.kind = 0x13) :
    checkFormat s f = runChecks (s.checks f)
      ⟨f.tagNo, f.driveNo, .format (f.byte 1).toNat (f.byte 2).toNat (f.byte 3)⟩ :=
  checkQueued_bind (by rw [h]; rfl) (by rw [h]; rfl)
    (runChecks_bind (formatOperand_eq _ f) (runChecks_pure _))
    (by simp [State.acceptRows, paramsInRange, h, runChecks])

theorem checkSeek_eq {s : State} {f : Frame} (h : f.kind = 0x14) :
    checkSeek s f = runChecks (s.checks f) ⟨f.tagNo, f.driveNo, .seek (f.byte 1).toNat⟩ :=
  checkQueued_bind (by rw [h]; rfl) (by rw [h]; rfl)
    (runChecks_bind (seekOperand_eq _ f) (runChecks_pure _))
    (by simp [State.acceptRows, paramsInRange, h, runChecks])

theorem checkRecal_eq {s : State} {f : Frame} (h : f.kind = 0x15) :
    checkRecal s f = runChecks (s.checks f) ⟨f.tagNo, f.driveNo, .recal⟩ :=
  checkQueued_bind (by rw [h]; rfl) (by rw [h]; rfl) (runChecks_pure _)
    (by simp [State.acceptRows, paramsInRange, h, runChecks])

theorem checkDefine_eq {s : State} {f : Frame} (h : f.kind = 0x02) :
    checkDefine s f = runChecks (s.checks f) (f.tagNo, f.driveNo, recordOf f) :=
  checkRequest_bind (by rw [h]; rfl) (by rw [h]; rfl)
    (runChecks_bind (recordOperand_eq (s.geometry f.driveNo) h)
      (runChecks_bind (checkIdle_eq s _) (runChecks_pure _)))
    (by simp [State.acceptRows, h, runChecks])

theorem checkQuery_eq {s : State} {f : Frame} (h : f.kind = 0x03) :
    checkQuery s f = runChecks (s.checks f) (f.tagNo, f.driveNo, f.byte 1 == 0x01) :=
  checkRequest_bind (by rw [h]; rfl) (by rw [h]; rfl)
    (runChecks_bind (flagOperand_eq _) (runChecks_pure _))
    (by simp [State.acceptRows, paramsInRange, h, runChecks])

/-! ### Refusals -/

/-- A frame whose checks run the rows of Table 1-3 is refused for the first row that fails (R5, R12). -/
theorem State.judged_refuses {α : Type} {s : State} {f : Frame} {check : Except Reason α} {a : α}
    {accept : α → State} {e : Reason} (hcheck : check = runChecks (s.checks f) a)
    (hfail : s.firstFailure f = some e) : s.judged f check accept = s.refuse e f :=
  State.judged_error (hcheck.trans (runChecks_error.mpr hfail))

/-- A control message runs checks 2 to 5 and is then refused by the state of its target, or not (R5). -/
theorem State.judged_control_refuses {s : State} {f : Frame} {take : TagNo → State} {e : Reason}
    (hkind : isControl f.kind = true) (hlen : bodyLength f.kind = some 0)
    (htake : ∀ t e, (s.tag t).refuses f.kind = some e → take t = s.refuse e f)
    (hfail : s.firstFailure f = some e) : s.judged f (checkHeader s f 0) take = s.refuse e f := by
  have hrun : (checkHeader s f 0 >>= fun t => runChecks (s.targetRow f.kind t) ()) = .error e := by
    refine (runChecks_bind (next := fun t => runChecks (s.targetRow f.kind t) ())
      (checkHeader_eq hlen) rfl).trans ?_
    rw [← State.checks_of_control hkind]
    exact runChecks_error.mpr hfail
  rcases hc : checkHeader s f 0 with e' | t <;> rw [hc] at hrun
  · cases hrun
    rfl
  · exact htake t e (State.targetRow_error.mp hrun)

/-- ABORT is refused by the state and phase of its target (Table 1-7). -/
theorem State.abortTag_refuses {s : State} {t : TagNo} {e : Reason} (f : Frame)
    (h : (s.tag t).refuses 0x20 = some e) : s.abortTag f t = s.refuse e f := by
  unfold State.abortTag
  cases ht : s.tag t <;> rw [ht] at h
  case queued => nomatch h
  case active r p ph m =>
    cases ph <;> cases m
    case pass.true => cases h; rfl
    all_goals nomatch h
  case free | done | sending | held => cases h; rfl

/-- RELEASE is refused by the state of its target (R24). -/
theorem State.releaseTag_refuses {s : State} {t : TagNo} {e : Reason} (f : Frame)
    (h : (s.tag t).refuses 0x21 = some e) : s.releaseTag f t = s.refuse e f := by
  unfold State.releaseTag
  cases ht : s.tag t <;> rw [ht] at h
  case done | held => nomatch h
  case sending r final m =>
    cases m
    · nomatch h
    · cases h; rfl
  case free | queued | active => cases h; rfl

/-- RESEND is refused by the state of its target (R25). -/
theorem State.resendTag_refuses {s : State} {t : TagNo} {e : Reason} (f : Frame)
    (h : (s.tag t).refuses 0x22 = some e) : s.resendTag f t = s.refuse e f := by
  unfold State.resendTag
  cases ht : s.tag t <;> rw [ht] at h
  case held => nomatch h
  case free | queued | active | done | sending => cases h; rfl

/-! ### The hand-off by kind -/

theorem ne_of_unknown {k : Byte} (h : knownKinds.contains k = false) :
    k ≠ 0x01 ∧ k ≠ 0x02 ∧ k ≠ 0x03 ∧ k ≠ 0x10 ∧ k ≠ 0x11 ∧ k ≠ 0x12 ∧ k ≠ 0x13 ∧ k ≠ 0x14 ∧ k ≠ 0x15
      ∧ k ≠ 0x20 ∧ k ≠ 0x21 ∧ k ≠ 0x22 := by
  simpa [knownKinds] using h

/-- A kind code is unknown or one of Table 12-2. -/
theorem kind_cases (k : Byte) : knownKinds.contains k = false ∨ k = 0x01 ∨ k = 0x02 ∨ k = 0x03 ∨ k = 0x10
    ∨ k = 0x11 ∨ k = 0x12 ∨ k = 0x13 ∨ k = 0x14 ∨ k = 0x15 ∨ k = 0x20 ∨ k = 0x21 ∨ k = 0x22 := by
  rcases h : knownKinds.contains k with _ | _
  · exact .inl rfl
  · have hm : k ∈ knownKinds := by simpa using h
    exact .inr (by simpa [knownKinds] using hm)

theorem State.handOn_unknown {s : State} {f : Frame} (h : knownKinds.contains f.kind = false) :
    s.handOn f = s.refuse .unknownKind f := by
  simp only [State.handOn, ne_of_unknown h, if_false]

theorem commandOf_unknown {lv : Levels} {f : Frame} (h : knownKinds.contains f.kind = false) :
    commandOf lv f = .unknownKind f.kind f.session f.tag f.body := by
  simp only [commandOf, ne_of_unknown h, if_false]

theorem State.firstFailure_unknown {s : State} {f : Frame} (h : knownKinds.contains f.kind = false) :
    s.firstFailure f = some .unknownKind := by
  have hlen : bodyLength f.kind = none := by
    simp only [bodyLength, ne_of_unknown h, if_false, or_self]
  simp [State.firstFailure, State.checks, hlen]

/-- A frame but OPEN whose first failing check gives a reason is refused for it (R5 to R12). -/
theorem State.handOn_refuses {s : State} {f : Frame} {e : Reason} (hopen : f.kind ≠ 0x01)
    (hfail : s.firstFailure f = some e) : s.handOn f = s.refuse e f := by
  obtain ⟨kind, session, tag, body⟩ := f
  rcases kind_cases kind with h | h | h | h | h | h | h | h | h | h | h | h | h
  case inl =>
    rw [State.firstFailure_unknown h] at hfail
    cases hfail
    exact State.handOn_unknown h
  all_goals subst h
  · exact absurd rfl hopen
  · exact State.judged_refuses (checkDefine_eq rfl) hfail
  · exact State.judged_refuses (checkQuery_eq rfl) hfail
  · exact State.judged_refuses (checkRead_eq rfl) hfail
  · exact State.judged_refuses (checkWrite_eq rfl) hfail
  · exact State.judged_refuses (checkVerify_eq rfl) hfail
  · exact State.judged_refuses (checkFormat_eq rfl) hfail
  · exact State.judged_refuses (checkSeek_eq rfl) hfail
  · exact State.judged_refuses (checkRecal_eq rfl) hfail
  · exact State.judged_control_refuses rfl rfl (fun _ _ => State.abortTag_refuses _) hfail
  · exact State.judged_control_refuses rfl rfl (fun _ _ => State.releaseTag_refuses _) hfail
  · exact State.judged_control_refuses rfl rfl (fun _ _ => State.resendTag_refuses _) hfail

theorem State.frameHappening_of_not_held {s : State} (f : Frame) (take : State → Frame → State)
    (h : s.resetHold = none) : s.frameHappening f take = (take s f).endHappening :=
  State.unlessHeld_none h

/-- The command of a frame hands the frame on under the levels it carries, in one happening (R156). -/
theorem exec_commandOf {s : State} (lv : Levels) (f : Frame) (h : s.resetHold = none) :
    exec (commandOf lv f) s = .next ((s.facing (commandOf lv f)).handOn f).endHappening := by
  obtain ⟨kind, session, tag, body⟩ := f
  rcases kind_cases kind with hk | hk | hk | hk | hk | hk | hk | hk | hk | hk | hk | hk | hk
  case inl =>
    rw [commandOf_unknown hk]
    exact congrArg _ (State.frameHappening_of_not_held _ _ h)
  all_goals
    subst hk
    exact congrArg _ (State.frameHappening_of_not_held _ _ h)

theorem State.firstFailure_facing (s : State) (c : Instr) (f : Frame) :
    (s.facing c).firstFailure f = s.firstFailure f := by
  unfold State.facing
  cases c.levels? <;> rfl

theorem State.refuse_notices (s : State) (e : Reason) (f : Frame) :
    s.Notices (s.refuse e f) e f.kind f.tag := State.addNotice_spec s e f.kind f.tag

/-- Settles O26: each check function runs its rows of Table 1-3, so the first row that fails refuses. -/
theorem firstFailingCheckRefuses : Obligations.FirstFailingCheckRefuses := by
  refine ⟨fun s lv f e hheld hopen hfail => ?_, fun s kind session tag body hheld hkind => ?_,
    fun s session tag body hheld hbody => ?_⟩
  · refine ⟨(s.facing (commandOf lv f)).refuse e f, ?_, State.refuse_notices _ e f⟩
    rw [exec_commandOf lv f hheld,
      State.handOn_refuses hopen ((State.firstFailure_facing s _ f).trans hfail)]
  · refine ⟨s.refuse .unknownKind ⟨kind, session, tag, body⟩, ?_, State.refuse_notices _ _ _⟩
    rw [← State.handOn_unknown hkind]
    exact congrArg _ (State.frameHappening_of_not_held _ _ hheld)
  · let f : Frame := ⟨0x01, session, tag, body⟩
    have htake : s.takeOpen f = s.refuse .badLength f := if_neg (mt List.eq_nil_of_length_eq_zero hbody)
    refine ⟨s.refuse .badLength f, ?_, State.refuse_notices _ _ _⟩
    rw [← htake]
    exact congrArg _ (State.frameHappening_of_not_held _ _ hheld)

/-! ### RELEASE and RESEND -/

/-- Checks 2 to 5 pass for an empty body under the current session number and a tag below 16 (R6 to R8). -/
theorem checkHeader_empty {s : State} {session tag : Byte} (kind : Byte) (hopen : s.session ≠ 0)
    (hcurrent : session = s.session) (htag : tag.toNat < 16) :
    checkHeader s ⟨kind, session, tag, []⟩ 0 = .ok (Fin.ofNat 16 tag.toNat) :=
  checkHeader_ok.mpr ⟨rfl, hopen, hcurrent, (Nat.mod_eq_of_lt htag).symm⟩

theorem exec_release {s : State} {session tag : Byte} {t : TagNo} (hheld : s.resetHold = none)
    (hcheck : checkHeader s ⟨0x21, session, tag, []⟩ 0 = .ok t) :
    exec (.release session tag []) s
      = .next (s.releaseTag ⟨0x21, session, tag, []⟩ t).endHappening := by
  have htake : s.takeRelease ⟨0x21, session, tag, []⟩ = s.releaseTag ⟨0x21, session, tag, []⟩ t :=
    State.judged_ok hcheck
  rw [← htake]
  exact congrArg _ (State.frameHappening_of_not_held _ _ hheld)

theorem exec_resend {s : State} {session tag : Byte} {t : TagNo} (hheld : s.resetHold = none)
    (hcheck : checkHeader s ⟨0x22, session, tag, []⟩ 0 = .ok t) :
    exec (.resend session tag []) s
      = .next (s.resendTag ⟨0x22, session, tag, []⟩ t).endHappening := by
  have htake : s.takeResend ⟨0x22, session, tag, []⟩ = s.resendTag ⟨0x22, session, tag, []⟩ t :=
    State.judged_ok hcheck
  rw [← htake]
  exact congrArg _ (State.frameHappening_of_not_held _ _ hheld)

/-- A RELEASE that its target's state refuses lists the notice alone (R12, R24). -/
theorem State.releaseTag_notices {s : State} {t : TagNo} {e : Reason} (f : Frame)
    (h : (s.tag t).refuses 0x21 = some e) : s.Notices (s.releaseTag f t) e f.kind f.tag :=
  State.releaseTag_refuses f h ▸ State.refuse_notices s e f

/-- A RESEND that its target's state refuses lists the notice alone (R12, R25). -/
theorem State.resendTag_notices {s : State} {t : TagNo} {e : Reason} (f : Frame)
    (h : (s.tag t).refuses 0x22 = some e) : s.Notices (s.resendTag f t) e f.kind f.tag :=
  State.resendTag_refuses f h ▸ State.refuse_notices s e f

theorem State.releaseTag_sending {s : State} {t : TagNo} {r : Request} {final : Final} (f : Frame)
    (h : s.tag t = .sending r final false) : s.releaseTag f t = s.setTag t (.sending r final true) := by
  simp only [State.releaseTag, h]

theorem State.releaseTag_done {s : State} {t : TagNo} {r : Request} {final : Final} (f : Frame)
    (h : s.tag t = .done r final) : s.releaseTag f t = (s.withdrawReply t).freeTag t := by
  simp only [State.releaseTag, h]

theorem State.releaseTag_held {s : State} {t : TagNo} {r : Request} {final : Final} (f : Frame)
    (h : s.tag t = .held r final) : s.releaseTag f t = s.freeTag t := by
  simp only [State.releaseTag, h]

theorem State.resendTag_held {s : State} {t : TagNo} {r : Request} {final : Final} (f : Frame)
    (h : s.tag t = .held r final) :
    s.resendTag f t = (s.setTag t (.done r final)).listEntry (.reply t) := by
  simp only [State.resendTag, h]

theorem State.freeTag_list (s : State) (t : TagNo) : (s.freeTag t).list = s.list := by
  obtain ⟨-, -, -, hrest⟩ := State.freeTag_spec s t
  rw [hrest]

theorem State.freeTag_stall (s : State) (t : TagNo) : (s.freeTag t).stall = s.stall := by
  obtain ⟨-, -, -, hrest⟩ := State.freeTag_spec s t
  rw [hrest]

/-- A tag with a request becomes FREE with its buffer, from a state that differs in the transmit list and
STALL alone (R24, R131). -/
theorem State.freeTag_of_request {s u : State} {t : TagNo} {r : Request}
    (hu : u = { s with list := u.list, stall := u.stall }) (hr : (s.tag t).request? = some r) :
    (u.freeTag t).tag t = .free ∧ (∀ v, v ≠ t → (u.freeTag t).tag v = s.tag v)
    ∧ (∀ b, (u.freeTag t).buffer b =
        if r.work.buffer? = some b then ⟨.free, (s.buffer b).contents⟩ else s.buffer b)
    ∧ u.freeTag t = { s with
        tags := (u.freeTag t).tags, buffers := (u.freeTag t).buffers, list := (u.freeTag t).list,
        stall := (u.freeTag t).stall } := by
  have htag : ∀ v, u.tag v = s.tag v := fun v => by rw [hu]; rfl
  have hbuffer : ∀ b, u.buffer b = s.buffer b := fun b => by rw [hu]; rfl
  have hwork : (u.work? t).bind Work.buffer? = r.work.buffer? := by
    rw [State.work?, htag, hr]
    rfl
  obtain ⟨hfree, hothers, hbuffers, hrest⟩ := State.freeTag_spec u t
  refine ⟨hfree, fun v hv => (hothers v hv).trans (htag v), fun b => ?_, ?_⟩
  · rw [hbuffers, hwork, hbuffer]
  · rw [State.freeTag_list, State.freeTag_stall]
    refine hrest.trans ?_
    rw [hu]

/-- Settles O35, by the state of the target. -/
theorem releaseByTargetState : Obligations.ReleaseByTargetState := by
  intro s session tag hheld hopen hcurrent htag t
  let f : Frame := ⟨0x21, session, tag, []⟩
  have hnotices : ∀ e, (s.tag t).refuses 0x21 = some e → s.Notices (s.releaseTag f t) e 0x21 tag :=
    fun _ => State.releaseTag_notices f
  refine ⟨s.releaseTag f t, exec_release hheld (checkHeader_empty 0x21 hopen hcurrent htag),
    fun h => ?free, fun r p h => ?queued, fun r p ph m h => ?active, fun r final h => ?marked,
    fun r final h => State.releaseTag_sending f h, fun r final h => ?ended, fun r final h => ?done,
    fun r final h => ?held⟩
  case free | queued | active | marked => exact hnotices _ (by rw [h]; rfl)
  case ended =>
    rcases h with h | h
    · rw [State.releaseTag_done f h]
      exact State.freeTag_of_request rfl (by rw [h]; rfl)
    · rw [State.releaseTag_held f h]
      exact State.freeTag_of_request rfl (by rw [h]; rfl)
  case done =>
    rw [State.releaseTag_done f h, State.freeTag_list, State.freeTag_stall]
    exact ⟨rfl, rfl⟩
  case held =>
    rw [State.releaseTag_held f h]
    exact ⟨State.freeTag_list s t, State.freeTag_stall s t⟩

theorem noticeCount_append_reply (l : List Entry) (t : TagNo) :
    noticeCount (l ++ [.reply t]) = noticeCount l := by
  rw [noticeCount_append]
  rfl

/-- Settles O36, by the state of the target. -/
theorem resendByTargetState : Obligations.ResendByTargetState := by
  intro s session tag hheld hopen hcurrent htag t
  let f : Frame := ⟨0x22, session, tag, []⟩
  have hnotices : ∀ e, (s.tag t).refuses 0x22 = some e → s.Notices (s.resendTag f t) e 0x22 tag :=
    fun _ => State.resendTag_notices f
  refine ⟨s.resendTag f t, exec_resend hheld (checkHeader_empty 0x22 hopen hcurrent htag),
    fun h => ?free, fun r p h => ?queued, fun r p ph m h => ?active, fun r final h => ?done,
    fun r final m h => ?sending, fun r final h => ?held⟩
  case free | queued | active | done | sending => exact hnotices _ (by rw [h]; rfl)
  case held =>
    rw [State.resendTag_held f h, State.listEntry_stall, State.setTag_list, noticeCount_append_reply]
    exact ⟨State.tag_setTag s t _, fun u hu => State.tag_setTag_ne s hu _, rfl, rfl,
      by rw [← noticeCount_append_reply s.list t]; rfl⟩

end Sys2Proof.Machine

/-! ## Overtaking

A newcomer at a TURNING drive is tested against the ACTIVE request in ROTATE (R42). The test is the six
conditions of the manual, and what it does when they hold is said field by field (R43). -/

namespace Sys2Proof.Machine

/-! ### The overtaking test -/

/-- Conditions 1 to 6 of R42. -/
theorem State.overtakes_iff {s : State} {d : Drive} {newTag : TagNo} {new act : Request} {passed : Nat} :
    s.overtakes d new newTag act passed = true ↔ s.MayOvertake d newTag new act passed := by
  simp only [State.overtakes, Bool.and_eq_true, decide_eq_true_eq, beq_iff_eq, List.all_eq_true,
    List.mem_filter, bne_iff_ne, and_imp]
  constructor
  · rintro ⟨⟨⟨⟨⟨newKind, actKind⟩, track⟩, wait⟩, below⟩, noneAtLimit⟩
    exact ⟨newKind, actKind, track, wait, below, noneAtLimit⟩
  · rintro ⟨newKind, actKind, track, wait, below, noneAtLimit⟩
    exact ⟨⟨⟨⟨⟨newKind, actKind⟩, track⟩, wait⟩, below⟩, noneAtLimit⟩

/-- With an ACTIVE request a TURNING drive is not free, and an acceptance runs the overtaking test alone
(R14, Table 2-1). -/
theorem State.acceptedAt_busy {s : State} {d : Drive} {t actTag : TagNo}
    (hturning : (s.drive d).spindle.condition = .turning) (hactive : s.activeTag d = some actTag) :
    s.acceptedAt d t = s.tryOvertake d t := by
  have hbusy : s.isFree d = false := by simp [State.isFree, hactive]
  simp [State.acceptedAt, hturning, hbusy]

theorem State.tryOvertake_rotate {s : State} {d : Drive} {newTag actTag : TagNo} {new act : Request}
    {n passed : Nat} {m : Bool} (hactive : s.activeTag d = some actTag) (hnew : s.tag newTag = .queued new n)
    (hact : s.tag actTag = .active act passed .rotate m) :
    s.tryOvertake d newTag =
      if s.overtakes d new newTag act passed then s.overtake d new newTag act actTag passed else s := by
  simp only [State.tryOvertake, hactive, hnew, hact]

/-! ### What overtaking does -/

theorem State.stampOf_of_request {s : State} {t : TagNo} {r : Request} (h : (s.tag t).request? = some r) :
    s.stampOf t = r.stamp := by
  rw [State.stampOf, h]
  rfl

/-- A tag that keeps its request keeps its place in arrival order (R27). -/
theorem State.stampOf_setTag {s : State} {t : TagNo} {x : TagState}
    (h : x.request? = (s.tag t).request?) : (s.setTag t x).stampOf = s.stampOf := by
  funext u
  rw [State.stampOf, State.stampOf, State.tag_setTag_eq]
  split
  · next hu => rw [hu, h]
  · rfl

@[simp] theorem State.tag_clearReservation (s : State) (d : Drive) (t : TagNo) :
    (s.clearReservation d).tag t = s.tag t := by
  rw [State.clearReservation_eq]
  rfl

@[simp] theorem State.drive_clearReservation (s : State) (d e : Drive) :
    (s.clearReservation d).drive e = s.drive e := by
  rw [State.clearReservation_eq]
  rfl

section Overtake

variable {s : State} {d : Drive} {new act : Request} {newTag actTag : TagNo} {passed : Nat}

/-- The former request joins the remaining members of the queue by the stamps as they were before. -/
theorem State.overtake_eq (hact : (s.tag actTag).request? = some act) :
    s.overtake d new newTag act actTag passed =
      ((((s.leaveQueue d newTag).setTag actTag (.queued act (passed + 1))).setQueue d
        (insertByStamp s.stampOf actTag ((s.drive d).queue.filter fun u => u != newTag))).setTag newTag
          (.active new 0 .rotate false)).clearReservation d := by
  have hstamps : ((s.leaveQueue d newTag).setTag actTag (.queued act (passed + 1))).stampOf = s.stampOf :=
    State.stampOf_setTag (s := s.leaveQueue d newTag) hact.symm
  simp only [State.overtake, hstamps, State.drive_setTag, State.leaveQueue_queue]

theorem State.overtake_tag_new :
    (s.overtake d new newTag act actTag passed).tag newTag = .active new 0 .rotate false := by
  simp [State.overtake]

theorem State.overtake_tag_former (hne : actTag ≠ newTag) :
    (s.overtake d new newTag act actTag passed).tag actTag = .queued act (passed + 1) := by
  simp [State.overtake, State.tag_setTag_ne _ hne]

theorem State.overtake_tag_ne {u : TagNo} (hnew : u ≠ newTag) (hformer : u ≠ actTag) :
    (s.overtake d new newTag act actTag passed).tag u = s.tag u := by
  simp [State.overtake, State.leaveQueue, State.tag_setTag_ne _ hnew, State.tag_setTag_ne _ hformer]

theorem State.overtake_drive (hact : (s.tag actTag).request? = some act) :
    (s.overtake d new newTag act actTag passed).drive d = { s.drive d with
      queue := insertByStamp s.stampOf actTag ((s.drive d).queue.filter fun u => u != newTag) } := by
  simp [State.overtake_eq hact, State.leaveQueue]

theorem State.overtake_drive_other :
    (s.overtake d new newTag act actTag passed).drive d.other = s.drive d.other := by
  simp [State.overtake, State.leaveQueue]

theorem State.overtake_reservation :
    (s.overtake d new newTag act actTag passed).bus.reservation =
      if s.bus.reservation = some d then none else s.bus.reservation := by
  simp only [State.overtake, State.clearReservation_eq]
  rfl

/-- Overtaking changes tags, drives and the reservation alone (R43). -/
theorem State.overtake_frame :
    s.overtake d new newTag act actTag passed = { s with
      tags := (s.overtake d new newTag act actTag passed).tags
      units := (s.overtake d new newTag act actTag passed).units
      bus := { s.bus with
        reservation := (s.overtake d new newTag act actTag passed).bus.reservation } } := by
  simp only [State.overtake, State.clearReservation_eq]
  rfl

end Overtake

/-- Settles O40, by the outcome of the overtaking test. -/
theorem newcomerOvertakes : Obligations.NewcomerOvertakes := by
  intro s d newTag actTag new act n passed m hturning hactive hnew hact
  have haccept : s.acceptedAt d newTag =
      if s.overtakes d new newTag act passed then s.overtake d new newTag act actTag passed else s :=
    (State.acceptedAt_busy hturning hactive).trans (State.tryOvertake_rotate hactive hnew hact)
  refine ⟨fun hfails => ?fails, fun hmay => ?overtakes⟩
  case fails => rw [haccept, if_neg (mt State.overtakes_iff.mp hfails)]
  case overtakes =>
    have hrequest : (s.tag actTag).request? = some act := by rw [hact]; rfl
    have hne : actTag ≠ newTag := by
      rintro rfl
      rw [hnew] at hact
      cases hact
    obtain ⟨older, newer, hqueue, hinsert, holder, hnewer⟩ :=
      insertByStamp_spec s.stampOf actTag ((s.drive d).queue.filter fun u => u != newTag)
    rw [State.stampOf_of_request hrequest] at holder hnewer
    refine ⟨s.overtake d new newTag act actTag passed, ?_, State.overtake_tag_new,
      State.overtake_tag_former hne, fun u => State.overtake_tag_ne,
      ⟨older, newer, hqueue, ?_, holder, hnewer⟩, State.overtake_drive_other,
      State.overtake_reservation, State.overtake_frame⟩
    · rw [haccept, if_pos (State.overtakes_iff.mpr hmay)]
    · rw [State.overtake_drive hrequest, hinsert]

end Sys2Proof.Machine

/-! ## Pulses of a TURNING drive

A pulse either moves the rotational position and is handed on, or fails the drive (R69, R70). Each model
function of a turn gets one equation per outcome, and a pulse command at a TURNING drive is that turn under
the levels the command carries. -/

namespace Sys2Proof.Machine

/-! ### The spindle after a pulse -/

theorem Spindle.atIndex_eq {x : Spindle} {period : Word16} (h : x.period = some period) :
    x.atIndex = { x with
      position := .index, revCount := some 0, watchdog := some (2 * period.toNat) } := by
  rw [Spindle.atIndex, h]
  rfl

theorem Spindle.atSector_eq {x : Spindle} {k : Nat} (n : Nat) (h : x.revCount = some k) :
    x.atSector n = { x with position := .sector n, revCount := some (k + 1) } := by
  rw [Spindle.atSector, h]
  rfl

/-! ### The sector a pulse starts -/

@[simp] theorem nextSector_index (sectors : Nat) : nextSector sectors .index = some 0 := rfl

theorem nextSector_of_lt {sectors n : Nat} (h : n + 1 < sectors) :
    nextSector sectors (.sector n) = some (n + 1) := if_pos h

/-- A pulse at or past sector S - 1 starts no sector (R69). -/
theorem nextSector_of_le {sectors n : Nat} (h : sectors ≤ n + 1) :
    nextSector sectors (.sector n) = none := if_neg (Nat.not_lt.mpr h)

/-! ### A turn by its outcome -/

section Turn

variable {s : State} {d : Drive}

theorem State.turnIndex_complete (h : (s.drive d).spindle.revCount = some (s.geometry d).sectors) :
    s.turnIndex d
      = ((s.setSpindle d (s.drive d).spindle.atIndex).handPulse d .index).endHappening := if_pos h

theorem State.turnIndex_miscounted (h : (s.drive d).spindle.revCount ≠ some (s.geometry d).sectors) :
    s.turnIndex d = s.wrongMedia d := if_neg h

theorem State.turnSector_next {n : Nat}
    (h : nextSector (s.geometry d).sectors (s.drive d).spindle.position = some n) :
    s.turnSector d
      = ((s.setSpindle d ((s.drive d).spindle.atSector n)).handPulse d (.sector n)).endHappening := by
  rw [State.turnSector, h]

theorem State.turnSector_past
    (h : nextSector (s.geometry d).sectors (s.drive d).spindle.position = none) :
    s.turnSector d = s.wrongMedia d := by
  rw [State.turnSector, h]

/-! ### A pulse command at a TURNING drive -/

theorem exec_indexPulse_turning (lv : Levels) (interval : Word16) (hheld : s.resetHold = none)
    (hturning : (s.drive d).spindle.condition = .turning) :
    exec (.indexPulse lv d interval) s = .next ((s.withLevels lv).turnIndex d) := by
  have hpulse : (s.withLevels lv).indexPulse d interval = (s.withLevels lv).turnIndex d := by
    simp only [State.indexPulse, State.drive_withLevels, hturning]
  rw [← hpulse]
  exact congrArg _ (State.unlessHeld_none hheld)

theorem exec_sectorPulse_turning (lv : Levels) (hheld : s.resetHold = none)
    (hturning : (s.drive d).spindle.condition = .turning) :
    exec (.sectorPulse lv d) s = .next ((s.withLevels lv).turnSector d) := by
  have hpulse : (s.withLevels lv).sectorPulse d = (s.withLevels lv).turnSector d := by
    simp only [State.sectorPulse, State.drive_withLevels, hturning]
  rw [← hpulse]
  exact congrArg _ (State.unlessHeld_none hheld)

end Turn

/-- Settles O44, by the count at an index pulse and by the position at a sector pulse. -/
theorem turningPulses : Obligations.TurningPulses := by
  intro s lv d interval hheld hturning x sectors t wrong handed
  have hindex : exec (.indexPulse lv d interval) s = .next (t.turnIndex d) :=
    exec_indexPulse_turning lv interval hheld hturning
  have hsector : exec (.sectorPulse lv d) s = .next (t.turnSector d) :=
    exec_sectorPulse_turning lv hheld hturning
  have hadvance : ∀ n k, nextSector sectors x.position = some n → x.revCount = some k →
      exec (.sectorPulse lv d) s
        = handed { x with position := .sector n, revCount := some (k + 1) } (.sector n) := by
    intro n k hnext hcount
    have hturn : exec (.sectorPulse lv d) s = handed (x.atSector n) (.sector n) :=
      hsector.trans (congrArg _ (State.turnSector_next hnext))
    rw [hturn, Spindle.atSector_eq n hcount]
  refine ⟨fun period hcount hperiod => ?complete, fun hcount => ?miscounted, fun k hpos => ?first,
    fun n k hpos hlt => ?next, fun n hpos hle => ?past⟩
  case complete =>
    have hturn : exec (.indexPulse lv d interval) s = handed x.atIndex .index :=
      hindex.trans (congrArg _ (State.turnIndex_complete hcount))
    rw [hturn, Spindle.atIndex_eq hperiod]
  case miscounted => exact hindex.trans (congrArg _ (State.turnIndex_miscounted hcount))
  case first => exact hadvance 0 k (by rw [hpos, nextSector_index])
  case next => exact hadvance (n + 1) k (by rw [hpos, nextSector_of_lt hlt])
  case past =>
    have hnone : nextSector sectors x.position = none := by rw [hpos, nextSector_of_le hle]
    exact hsector.trans (congrArg _ (State.turnSector_past hnone))

end Sys2Proof.Machine

/-! ## The PASS need at a pulse

The ACTIVE request of a drive in ROTATE needs the bus at its starting pulse (R97). The need misses, or is
granted, and a grant is refused by the write-protect sample or begins the pass the request is due (R98, R99).
Each of these operations is said once, and the pulse by its outcome. -/

namespace Sys2Proof.Machine

/-! ### The pass a request is due -/

theorem passOf_eq_duePass (t : TagNo) (r : Request) : passOf t r = r.duePass t := by
  obtain ⟨w, d, session, stamp, age⟩ := r
  cases w
  case write a v b l due => cases due <;> rfl
  all_goals rfl

section DuePass

variable {r : Request} {t : TagNo} {p : Pass}

theorem Request.duePass_drive (h : r.duePass t = some p) : p.drive = r.drive := by
  obtain ⟨w, d, session, stamp, age⟩ := r
  cases w <;> cases h <;> rfl

/-- The write-protect sample is for the passes that write the media (R99). -/
theorem Request.duePass_writes (h : r.duePass t = some p) : p.writes = r.work.writesMedia := by
  obtain ⟨w, d, session, stamp, age⟩ := r
  cases w
  case write a v b l due => cases due <;> cases h <;> rfl
  all_goals cases h <;> rfl

/-- A write pass is due with its gate open (R111). -/
theorem Request.duePass_gateOpen (h : r.duePass t = some p) {n : Nat} {st : GateStage}
    (hbody : p.body = .writing n st) : st = .gateOpen := by
  obtain ⟨w, d, session, stamp, age⟩ := r
  cases w
  case write a v b l due => cases due <;> cases h <;> cases hbody; rfl
  all_goals cases h <;> cases hbody

end DuePass

/-! ### The beginning of a pass -/

theorem State.beginPass_writing {s : State} {p : Pass} {n : Nat} {st : GateStage} {b : BufNo}
    (hbody : p.body = .writing n st) (hbuffer : p.buffer = some b) :
    s.beginPass p = ({ s with pass := some p } : State).openGate p.drive p.track
      (sectorRecord p.track p.side n (s.buffer b).contents.val) := by
  simp only [State.beginPass, hbody, hbuffer]
  rfl

theorem State.beginPass_not_writing {s : State} {p : Pass} (h : ∀ n st, p.body ≠ .writing n st) :
    s.beginPass p = { s with pass := some p } := by
  unfold State.beginPass
  split
  · next n st b hbody hbuffer => exact absurd hbody (h n st)
  · rfl

/-- The beginning of a pass writes its record and, with the gate, the drive port (R106, R111). -/
theorem State.beginPass_eq (s : State) (p : Pass) :
    s.beginPass p = { s with pass := some p, port := (s.beginPass p).port } := by
  unfold State.beginPass
  split <;> rfl

theorem State.beginPass_tag (s : State) (p : Pass) (u : TagNo) : (s.beginPass p).tag u = s.tag u := by
  rw [State.beginPass_eq]
  rfl

/-- The gate leaves the select lines (R111). -/
theorem State.beginPass_sel (s : State) (p : Pass) : (s.beginPass p).port.sel = s.port.sel := by
  unfold State.beginPass
  split <;> rfl

/-! ### Grants, refusals and misses -/

/-- The request on a drive's active tag is a request for that drive (R30). -/
theorem State.activeTag_drive {s : State} {d : Drive} {t : TagNo} {r : Request} {passed : Nat} {ph : Phase}
    {k : Bool} (hactive : s.activeTag d = some t) (htag : s.tag t = .active r passed ph k) :
    r.drive = d := by
  have h := State.activeTag_some hactive
  rw [htag] at h
  exact eq_of_beq h

section Grant

variable {s : State} {d : Drive} {t : TagNo} {r : Request} {passed : Nat} {ph : Phase} {k : Bool}

theorem selectLines_self (d : Drive) : (selectLines d).get d = true := by cases d <;> rfl

theorem selectLines_other (d : Drive) : (selectLines d).get d.other = false := by cases d <;> rfl

/-- A grant takes the bus, clears a reservation that names the drive, selects the drive and its side, and
moves the request to PASS (R97, R100). -/
theorem State.grantPass_eq (h : s.tag t = .active r passed ph k) :
    s.grantPass d t r = { s.setTag t (.active r passed .pass k) with
      bus := ⟨some ⟨d, .pass⟩, if s.bus.reservation = some d then none else s.bus.reservation, some d⟩
      port := { s.port with sel := selectLines d, side := r.work.side == 1 } } := by
  simp only [State.grantPass, State.clearReservation_eq]
  exact State.setPhase_active h

theorem State.grantPass_levels (h : s.tag t = .active r passed ph k) :
    (s.grantPass d t r).levels = s.levels := by
  rw [State.grantPass_eq h]
  rfl

theorem State.grantPass_tag (h : s.tag t = .active r passed ph k) :
    (s.grantPass d t r).tag t = .active r passed .pass k := by
  rw [State.grantPass_eq h]
  exact State.tag_setTag s t _

theorem State.grantPass_tag_ne (h : s.tag t = .active r passed ph k) {u : TagNo} (hu : u ≠ t) :
    (s.grantPass d t r).tag u = s.tag u := by
  rw [State.grantPass_eq h]
  exact State.tag_setTag_ne s hu _

theorem State.writeProtected_active (h : s.tag t = .active r passed ph k) :
    s.writeProtected t = s.releaseBus.finish t r .writeProtected :=
  State.finishTag_active (s := s.releaseBus) h

/-- A miss raises the counter of misses and takes a reservation of NONE (R98). -/
theorem State.miss_eq (s : State) (d : Drive) :
    s.miss d = { s.raiseMisses d with bus := { s.bus with
      reservation := if s.bus.reservation = none then some d else s.bus.reservation } } := by
  by_cases h : s.bus.reservation = none
  · simp only [h, if_true]
    exact if_pos h
  · simp only [h, if_false]
    exact if_neg h

/-! ### The need by its outcome -/

theorem State.passNeed_missed (h : s.bus.holder ≠ none ∨ s.bus.reservation = some d.other) :
    s.passNeed d t r = s.miss d := by
  refine if_neg fun ⟨hfree, hunbarred⟩ => ?_
  rcases h with hheld | hbarred
  · exact hheld hfree
  · simp [State.barred, hbarred] at hunbarred

theorem State.passNeed_granted {p : Pass} (htag : s.tag t = .active r passed ph k)
    (hfree : s.bus.holder = none) (hunbarred : s.bus.reservation ≠ some d.other)
    (hp : r.duePass t = some p) :
    s.passNeed d t r =
      if p.writes = true ∧ s.levels.wprot.get d = true then (s.grantPass d t r).writeProtected t
      else (s.grantPass d t r).beginPass p := by
  have hgrant : s.bus.holder = none ∧ s.barred d = false := ⟨hfree, by simp [State.barred, hunbarred]⟩
  simp only [State.passNeed, if_pos hgrant, passOf_eq_duePass, hp, State.grantPass_levels htag,
    Request.duePass_writes hp, Bool.and_eq_true]

/-- A grant that the write-protect sample refuses ends the request with the bus free again (R99). -/
theorem State.passNeed_refused {p : Pass} (htag : s.tag t = .active r passed ph k)
    (hfree : s.bus.holder = none) (hunbarred : s.bus.reservation ≠ some d.other)
    (hp : r.duePass t = some p) (hwrites : p.writes = true) (hprotected : s.levels.wprot.get d = true) :
    s.passNeed d t r = (s.grantPass d t r).releaseBus.finish t r .writeProtected := by
  rw [State.passNeed_granted htag hfree hunbarred hp, if_pos ⟨hwrites, hprotected⟩]
  exact State.writeProtected_active (State.grantPass_tag htag)

theorem State.passNeed_begins {p : Pass} (htag : s.tag t = .active r passed ph k)
    (hfree : s.bus.holder = none) (hunbarred : s.bus.reservation ≠ some d.other)
    (hp : r.duePass t = some p) (hallowed : p.writes = false ∨ s.levels.wprot.get d = false) :
    s.passNeed d t r = (s.grantPass d t r).beginPass p := by
  rw [State.passNeed_granted htag hfree hunbarred hp, if_neg]
  rintro ⟨hwrites, hprotected⟩
  simp [hwrites, hprotected] at hallowed

theorem State.needStage_rotate (hactive : s.activeTag d = some t)
    (htag : s.tag t = .active r passed .rotate k) (pulse : Pulse) :
    s.needStage d pulse = if r.work.startingPulse = some pulse then s.passNeed d t r else s := by
  simp only [State.needStage, hactive, htag]

end Grant

/-- Settles O53, by the outcome of the need. -/
theorem passNeedIsJudged : Obligations.PassNeedIsJudged := by
  intro s d t r passed k pulse p hactive htag hp held side
  have hstage := State.needStage_rotate hactive htag pulse
  refine ⟨s.needStage d pulse, rfl, fun hother => hstage.trans (if_neg hother),
    fun hstart hmiss => ?miss, fun hstart hfree hunbarred hwrites hprotected => ?refused,
    fun hstart hfree hunbarred hallowed => ?begins⟩
  case miss =>
    rw [hstage, if_pos hstart, State.passNeed_missed hmiss, State.miss_eq]
    exact ⟨State.drive_setStats s d _, State.drive_setStats_other s d _, rfl⟩
  case refused =>
    rw [hstage, if_pos hstart, State.passNeed_refused htag hfree hunbarred hp hwrites hprotected]
    obtain ⟨hdone, hothers, hlist, -, -⟩ :=
      State.finish_spec (s.grantPass d t r).releaseBus t r .writeProtected
    rw [reachedAt_of_pulse (by rw [hstart]; rfl)] at hdone
    refine ⟨hdone, fun u hu => (hothers u hu).trans (State.grantPass_tag_ne htag hu), ?list, ?frame⟩
    case list =>
      rw [hlist, State.grantPass_eq htag]
      rfl
    case frame =>
      rw [State.grantPass_eq htag]
      rfl
  case begins =>
    have hdrive : p.drive = d :=
      (Request.duePass_drive hp).trans (State.activeTag_drive hactive htag)
    rw [hstage, if_pos hstart, State.passNeed_begins htag hfree hunbarred hp hallowed]
    refine ⟨(State.beginPass_tag _ p t).trans (State.grantPass_tag htag),
      fun u hu => (State.beginPass_tag _ p u).trans (State.grantPass_tag_ne htag hu),
      ?selected, ?unselected, fun n b hbody hbuffer => ?written, fun hbody => ?unwritten, ?frame⟩
    case selected =>
      rw [State.beginPass_sel, State.grantPass_eq htag]
      exact selectLines_self d
    case unselected =>
      rw [State.beginPass_sel, State.grantPass_eq htag]
      exact selectLines_other d
    case written =>
      rw [State.beginPass_writing hbody hbuffer, State.grantPass_eq htag, hdrive]
      rfl
    case unwritten =>
      have hno : ∀ n st, p.body ≠ .writing n st := fun n st h =>
        hbody n (Request.duePass_gateOpen hp h ▸ h)
      rw [State.beginPass_not_writing hno, State.grantPass_eq htag]
    case frame =>
      rw [State.beginPass_eq, State.grantPass_eq htag]
      rfl

end Sys2Proof.Machine

/-! ## The retry ladder

A failed attempt counts, and then the request ends, is recalibrated or rotates again (R117, R118, R119). The
retry fields are read in the words of Safety first, then `State.failAttempt` gets one equation per outcome:
the counted failure with the tag, and at most the list or the head, replaced. -/

namespace Sys2Proof.Machine

/-! ### The retry fields -/

theorem Ladder.fail_eq (l : Ladder) (o : Outcome) :
    l.fail o = ⟨l.attempts + 1, if o = .idMismatch then min 2 (l.idRun + 1) else 0, l.recalibrated⟩ := by
  have hrun : (if l.idRun < 2 then l.idRun + 1 else 2) = min 2 (l.idRun + 1) := by split <;> omega
  rw [Ladder.fail, hrun]

theorem Ladder.spent_iff {l : Ladder} {g : DriveRecord} :
    l.spent g = true ↔ l.attempts = 1 + g.retryLimit := beq_iff_eq

theorem Ladder.lost_iff {l : Ladder} : l.lost = true ↔ l.idRun = 2 ∧ l.recalibrated = false := by
  rw [Ladder.lost, Bool.and_eq_true, beq_iff_eq, Bool.not_eq_true']

section LadderWork

variable {w : Work} {l : Ladder}

/-- The kinds with retry fields are READ, WRITE and VERIFY, and only a WRITE carries a check-due mark. -/
theorem Work.setLadder_afterCheck (h : w.ladder? = some l) (check : Bool) (new : Ladder) :
    (if check then w.setCheckDue false else w).setLadder new = w.afterFailure check new := by
  cases w
  case read | verify => cases check <;> rfl
  case write a v b old due => cases check <;> cases due <;> rfl
  all_goals cases h

/-- A request with retry fields has no motion of its own, so it reports no track reached (R171). -/
theorem reachedAt_afterFailure (h : w.ladder? = some l) (check : Bool) (new : Ladder) (st : Status)
    (x : HeadState) : reachedAt (w.afterFailure check new) st x = none := by
  cases w
  case read | write | verify => rfl
  all_goals cases h

end LadderWork

/-! ### The counted failure -/

@[simp] theorem State.drive_raiseFailedAttempts (s : State) (d : Drive) :
    (s.raiseFailedAttempts d).drive d = { s.drive d with
      stats := { (s.drive d).stats with
        failedAttempts := raised (s.drive d).stats.failedAttempts } } := State.drive_setStats s d _

@[simp] theorem State.drive_raiseFailedAttempts_other (s : State) (d : Drive) :
    (s.raiseFailedAttempts d).drive d.other = s.drive d.other := State.drive_setStats_other s d _

@[simp] theorem State.geometry_raiseFailedAttempts (s : State) (d : Drive) :
    (s.raiseFailedAttempts d).geometry d = s.geometry d := by
  rw [State.geometry, State.drive_raiseFailedAttempts, State.geometry]

theorem State.setTag_setTag (s : State) (t : TagNo) (x y : TagState) :
    (s.setTag t x).setTag t y = s.setTag t y := by
  simp only [State.setTag, Vector.set_set]

/-! ### A failed attempt by its outcome -/

section Failure

variable {s : State} {t : TagNo} {r : Request} {c : Nat} {ph : Phase} {k : Bool} {l new : Ladder}
  {o : Outcome}

/-- The attempts have run out (R117 step 4). -/
theorem State.failAttempt_spent (htag : s.tag t = .active r c ph k) (hladder : r.work.ladder? = some l)
    (check : Bool) (hfail : l.fail o = new) (hspent : new.spent (s.geometry r.drive) = true) :
    s.failAttempt t r check o = ((s.raiseFailedAttempts r.drive).setTag t
      (.done { r with work := r.work.afterFailure check new } ⟨o.status, none⟩)).listEntry (.reply t) := by
  have hcounted : (s.raiseFailedAttempts r.drive).tag t = .active r c ph k := htag
  simp only [State.failAttempt, hladder, hfail, State.geometry_raiseFailedAttempts, if_pos hspent,
    State.onActive_active hcounted, Work.setLadder_afterCheck hladder]
  rw [State.finishTag_active (State.tag_setTag _ _ _), State.finish, State.setTag_setTag,
    reachedAt_afterFailure hladder]

/-- Two ID mismatches in a row order the one recalibration of the request (R117 step 5, R119). -/
theorem State.failAttempt_lost (htag : s.tag t = .active r c ph k) (hladder : r.work.ladder? = some l)
    (check : Bool) (hfail : l.fail o = new) (hleft : ¬ new.spent (s.geometry r.drive) = true)
    (hlost : new.lost = true) :
    s.failAttempt t r check o = ((s.raiseFailedAttempts r.drive).setHead r.drive
      { (s.drive r.drive).head with
        motion := some ⟨.recalThenSeek, r.work.track, .tag t, .waiting, 0⟩ }).setTag t
      (.active { r with work := r.work.afterFailure check new.recalibrate } c .position k) := by
  have hcounted : (s.raiseFailedAttempts r.drive).tag t = .active r c ph k := htag
  simp only [State.failAttempt, hladder, hfail, State.geometry_raiseFailedAttempts, if_neg hleft,
    if_pos hlost, State.onActive_active hcounted, Work.setLadder_afterCheck hladder]
  rw [State.orderMotion, State.setPhase_active ((State.tag_setHead _ _ _ _).trans (State.tag_setTag _ _ _)),
    State.drive_setTag, State.drive_raiseFailedAttempts]
  exact State.setTag_setTag ((s.raiseFailedAttempts r.drive).setHead r.drive _) t _ _

/-- The request waits for its sector again (R118). -/
theorem State.failAttempt_retries (htag : s.tag t = .active r c ph k) (hladder : r.work.ladder? = some l)
    (check : Bool) (hfail : l.fail o = new) (hleft : ¬ new.spent (s.geometry r.drive) = true)
    (hfound : ¬ new.lost = true) :
    s.failAttempt t r check o = (s.raiseFailedAttempts r.drive).setTag t
      (.active { r with work := r.work.afterFailure check new } c .rotate k) := by
  have hcounted : (s.raiseFailedAttempts r.drive).tag t = .active r c ph k := htag
  simp only [State.failAttempt, hladder, hfail, State.geometry_raiseFailedAttempts, if_neg hleft,
    if_neg hfound, State.onActive_active hcounted, Work.setLadder_afterCheck hladder]
  rw [State.setPhase_active (State.tag_setTag _ _ _), State.setTag_setTag]

end Failure

/-- Settles O59, by the outcome of the ladder: spent, lost or tried again. -/
theorem ladderSteps : Obligations.LadderSteps := by
  intro s t r c ph k check o l htag hladder d attempts run q after
  have hfail : l.fail o = ⟨attempts, run, l.recalibrated⟩ := Ladder.fail_eq l o
  have hq : s.failAttempt t r check o = q := rfl
  have hcounted := State.drive_raiseFailedAttempts s d
  have hother := State.drive_raiseFailedAttempts_other s d
  clear_value q
  by_cases hspent : attempts = 1 + (s.geometry d).retryLimit
  case pos =>
    rw [State.failAttempt_spent htag hladder check hfail (Ladder.spent_iff.mpr hspent)] at hq
    subst hq
    rw [if_pos hspent]
    exact ⟨fun u hu => State.tag_setTag_ne _ hu _, hother,
      by rw [State.drive_listEntry, State.drive_setTag, hcounted], rfl, State.tag_setTag _ t _, rfl,
      by rw [State.drive_listEntry, State.drive_setTag, hcounted]⟩
  case neg =>
    have hleft : ¬ Ladder.spent ⟨attempts, run, l.recalibrated⟩ (s.geometry d) = true :=
      mt Ladder.spent_iff.mp hspent
    rw [if_neg hspent]
    by_cases hlost : run = 2 ∧ l.recalibrated = false
    case pos =>
      rw [State.failAttempt_lost htag hladder check hfail hleft (Ladder.lost_iff.mpr hlost)] at hq
      subst hq
      rw [if_pos hlost]
      have hordered := State.drive_setHead (s.raiseFailedAttempts d) d
        { (s.drive d).head with motion := some ⟨.recalThenSeek, r.work.track, .tag t, .waiting, 0⟩ }
      rw [hcounted] at hordered
      exact ⟨fun u hu => State.tag_setTag_ne _ hu _, (State.drive_setHead_other _ d _).trans hother,
        by rw [State.drive_setTag, hordered], rfl, State.tag_setTag _ t _, rfl, rfl,
        by rw [State.drive_setTag, hordered]⟩
    case neg =>
      rw [State.failAttempt_retries htag hladder check hfail hleft (mt Ladder.lost_iff.mp hlost)] at hq
      subst hq
      rw [if_neg hlost]
      exact ⟨fun u hu => State.tag_setTag_ne _ hu _, hother, by rw [State.drive_setTag, hcounted], rfl,
        State.tag_setTag _ t _, rfl, rfl, by rw [State.drive_setTag, hcounted]⟩

end Sys2Proof.Machine

/-! ## Events raised for a drive

An event raised for a drive maps the merge over the transmit list when the drive has an EVENT entry, and
lists a new entry otherwise. At most one entry of the list is the drive's, so the map rewrites that entry
in its place; neither case adds or removes a NOTICE, which is all STALL counts (R76, R136, R139). -/

namespace Sys2Proof.Machine

/-! ### The EVENT entry of a drive -/

theorem Entry.isEventOf_iff {d : Drive} {e : Entry} :
    e.isEventOf d = true ↔ ∃ set, e = .event d set := by
  cases e with
  | event d' set => simp [Entry.isEventOf]
  | reply | notice | started => simp [Entry.isEventOf]

@[simp] theorem Entry.isEventOf_event (d : Drive) (set : EventSet) :
    (Entry.event d set).isEventOf d = true := Entry.isEventOf_iff.mpr ⟨set, rfl⟩

/-! ### Merging -/

@[simp] theorem Entry.mergeEvent_event (d : Drive) (ev : DriveEvent) (set : EventSet) :
    (Entry.event d set).mergeEvent d ev = .event d (set.insert ev) := if_pos rfl

theorem Entry.mergeEvent_other {d : Drive} {e : Entry} (ev : DriveEvent) (h : ¬ e.isEventOf d = true) :
    e.mergeEvent d ev = e := by
  cases e with
  | event d' set =>
    have hne : d' ≠ d := fun heq => h (Entry.isEventOf_iff.mpr ⟨set, by rw [heq]⟩)
    exact if_neg hne
  | reply | notice | started => rfl

theorem Entry.isNotice_mergeEvent (d : Drive) (ev : DriveEvent) (e : Entry) :
    (e.mergeEvent d ev).isNotice = e.isNotice := by
  by_cases h : e.isEventOf d = true
  · obtain ⟨set, rfl⟩ := Entry.isEventOf_iff.mp h
    rw [Entry.mergeEvent_event]
    rfl
  · rw [Entry.mergeEvent_other ev h]

theorem noticeCount_map_mergeEvent (l : List Entry) (d : Drive) (ev : DriveEvent) :
    noticeCount (l.map (Entry.mergeEvent d ev)) = noticeCount l := by
  rw [noticeCount, List.countP_map]
  exact List.countP_congr fun e _ => by rw [Function.comp_apply, Entry.isNotice_mergeEvent]

theorem map_mergeEvent_of_none {l : List Entry} {d : Drive} (ev : DriveEvent)
    (h : l.countP (Entry.isEventOf d) = 0) : l.map (Entry.mergeEvent d ev) = l := by
  have hsame : ∀ e ∈ l, e.mergeEvent d ev = id e := fun e he =>
    Entry.mergeEvent_other ev (List.countP_eq_zero.mp h e he)
  rw [List.map_congr_left hsame, List.map_id]

/-- A drive's only EVENT entry takes the event in its place (R136). -/
theorem map_mergeEvent_eventAdded {l : List Entry} {d : Drive} (ev : DriveEvent)
    (hone : l.countP (Entry.isEventOf d) ≤ 1) (hwaits : l.any (Entry.isEventOf d) = true) :
    EventAdded l (l.map (Entry.mergeEvent d ev)) d ev := by
  obtain ⟨e, hmem, he⟩ := List.any_eq_true.mp hwaits
  obtain ⟨set, rfl⟩ := Entry.isEventOf_iff.mp he
  obtain ⟨older, newer, rfl⟩ := List.append_of_mem hmem
  rw [List.countP_append, List.countP_cons_of_pos he] at hone
  have holder : older.countP (Entry.isEventOf d) = 0 := by omega
  have hnewer : newer.countP (Entry.isEventOf d) = 0 := by omega
  refine .inr ⟨older, set, newer, rfl, ?_⟩
  rw [List.map_append, List.map_cons, map_mergeEvent_of_none ev holder, map_mergeEvent_of_none ev hnewer,
    Entry.mergeEvent_event]

/-- A drive without an EVENT entry gets one at the tail (R135, R136). -/
theorem append_event_eventAdded {l : List Entry} {d : Drive} (ev : DriveEvent)
    (hnone : ¬ l.any (Entry.isEventOf d) = true) :
    EventAdded l (l ++ [.event d (.single ev)]) d ev :=
  .inl ⟨fun set hmem => hnone (List.any_eq_true.mpr ⟨_, hmem, Entry.isEventOf_event d set⟩), rfl⟩

/-! ### Raising an event -/

theorem State.raiseEvent_merges {s : State} {d : Drive} (ev : DriveEvent)
    (h : s.list.any (Entry.isEventOf d) = true) :
    s.raiseEvent d ev = s.setList (s.list.map (Entry.mergeEvent d ev)) := if_pos h

theorem State.raiseEvent_lists {s : State} {d : Drive} (ev : DriveEvent)
    (h : ¬ s.list.any (Entry.isEventOf d) = true) :
    s.raiseEvent d ev = s.listEntry (.event d (.single ev)) := if_neg h

theorem State.raiseEvent_eventAdded {s : State} {d : Drive} (ev : DriveEvent)
    (hone : s.list.countP (Entry.isEventOf d) ≤ 1) :
    EventAdded s.list (s.raiseEvent d ev).list d ev := by
  by_cases h : s.list.any (Entry.isEventOf d) = true
  · rw [State.raiseEvent_merges ev h]
    exact map_mergeEvent_eventAdded ev hone h
  · rw [State.raiseEvent_lists ev h]
    exact append_event_eventAdded ev h

theorem State.noticeCount_raiseEvent (s : State) (d : Drive) (ev : DriveEvent) :
    noticeCount (s.raiseEvent d ev).list = noticeCount s.list := by
  by_cases h : s.list.any (Entry.isEventOf d) = true
  · rw [State.raiseEvent_merges ev h, State.setList_list, noticeCount_map_mergeEvent]
  · rw [State.raiseEvent_lists ev h, State.listEntry_list, noticeCount_append]
    rfl

theorem State.raiseEvent_stall (s : State) (d : Drive) (ev : DriveEvent) :
    (s.raiseEvent d ev).stall = decide (4 ≤ noticeCount s.list) := by
  rw [State.raiseEvent_eq, State.noticeCount_raiseEvent]

/-- Settles O23: the list by whether an EVENT entry of the drive waits, STALL by the NOTICEs it leaves. -/
theorem eventMerges : Obligations.EventMerges := by
  intro s d ev hone
  have hstall := s.raiseEvent_stall d ev
  refine ⟨State.raiseEvent_eventAdded ev hone, hstall, ?_⟩
  rw [hstall, ← State.noticeCount_raiseEvent s d ev]
  exact s.raiseEvent_eq d ev

end Sys2Proof.Machine

/-! ## The moves of a happening

Every command but the two resets, the two HOLD commands and FRAME_END is a sequence of moves of the part,
possibly followed by the beginning of a frame. `Move` lists the moves with what guards each of them, and
`exec_leads` says so of every command; an invariant that each move keeps is then kept by every command.

A move is made within a `Scope`: the drives whose record, spindle, queue or sweep the happening may change,
and the tags it may accept a request on, with the stamp that request takes. -/

namespace Sys2Proof.Machine

/-- What a happening may touch: drives, and tags with the arrival stamp of an acceptance on them. -/
structure Scope where
  drives : Drive → Prop
  accepts : TagNo → Nat → Prop

/-- The head's motion is STEPPING (R81). -/
def Head.isStepping (h : Head) : Bool := h.motion.any fun m => m.stage == .stepping

/-- What can become of a spindle in one move, under the record in force (R60 to R71, R77 to R79). -/
inductive SpindleMove (g : DriveRecord) (x : Spindle) : Spindle → Prop
  | starts (h : x.condition = .stopped) : SpindleMove g x
      { motor := true, condition := .starting, media := .unknown, position := .unknown, period := none,
        revCount := none, measure := some ⟨false, none, 0⟩, spinUpTimer := some (1000 * g.spinUpLimit),
        watchdog := none, runOnTimer := none }
  | stops (m : Media) (h : x ≠ .still .undefined .unknown) : SpindleMove g x (.still .stopped m)
  | runsOn (o : Option Nat) (h : x.condition = .turning) : SpindleMove g x { x with runOnTimer := o }
  | measures (m : Measure) (h : x.condition = .starting) : SpindleMove g x { x with measure := some m }
  | turns (period : Word16) (h : x.condition = .starting) : SpindleMove g x
      { motor := true, condition := .turning, media := .present, position := .index, period := some period,
        revCount := some 0, measure := none, spinUpTimer := none, watchdog := some (2 * period.toNat),
        runOnTimer := none }
  | index (h : x.condition = .turning) : SpindleMove g x x.atIndex
  | sector (n : Nat) (h : x.condition = .turning) (hn : nextSector g.sectors x.position = some n) :
      SpindleMove g x (x.atSector n)

/-- The state of an acceptance of a queued kind, before what follows at the drive (R14, R27). -/
def State.joinQueue (s : State) (d : Drive) (t : TagNo) (w : Work) : State :=
  (({ s with nextStamp := s.nextStamp + 1 } : State).setTag t
    (.queued ⟨w, d, s.session, s.nextStamp, 0⟩ 0)).setQueue d ((s.drive d).queue ++ [t])

theorem State.enqueue_eq (s : State) (d : Drive) (t : TagNo) (w : Work) :
    s.enqueue d t w = (s.joinQueue d t w).acceptedAt d t := rfl

/-- A pass has ceased with its hold, and a buffer has been freed or not (R107, R122). -/
def State.dropPass (s : State) (b : Option BufNo) : State :=
  ({ s.releaseBus with pass := none } : State).freeBuffer b

/-- One move of the part within a scope. -/
inductive Move (K : Scope) : State → State → Prop
  /- The link and the transmit list. -/
  | levels (s : State) (lv : Levels) : Move K s (s.withLevels lv)
  | receives (s : State) (x : Receiver) (h : s.rx.inBounds = true → x.inBounds = true) :
      Move K s { s with rx := x }
  | notice (s : State) (e : Reason) (kind tag : Byte) : Move K s (s.addNotice e kind tag)
  | event (s : State) (d : Drive) (ev : DriveEvent) : Move K s (s.raiseEvent d ev)
  | opens (s : State) (h : s.session = 0) :
      Move K s (({ s with session := nextSession s.session } : State).announce .opened)
  | reopens (s : State) (h : s.session ≠ 0) (hK : ∀ d, K.drives d) :
      Move K s (({ s with session := nextSession s.session } : State).endSession.announce .opened)
  /- The drives. -/
  | spindle (s : State) (d : Drive) (x : Spindle) (hK : K.drives d)
      (h : SpindleMove (s.geometry d) (s.drive d).spindle x) : Move K s (s.setSpindle d x)
  | head (s : State) (d : Drive) (x : Head)
      (h : x.isStepping = true → (s.drive d).head.isStepping = true ∨ s.bus.holder = some ⟨d, .step⟩) :
      Move K s (s.setHead d x)
  | stats (s : State) (d : Drive) (x : Stats) (h : (s.drive d).stats.inBounds = true → x.inBounds = true) :
      Move K s (s.setStats d x)
  | redefines (s : State) (d : Drive) (g : DriveRecord) (hK : K.drives d) (hidle : s.isIdle d = true)
      (hg : g.inRange = true) : Move K s (s.redefine d g)
  /- The Scheduler. -/
  | decides (s : State) (d : Drive) (hK : K.drives d) (hfree : s.isFree d = true)
      (hturning : s.isTurning d = true) : Move K s (s.decide1 d)
  | overtakes (s : State) (d : Drive) (new act : Request) (newTag actTag : TagNo) (n passed : Nat) (m : Bool)
      (hK : K.drives d) (hactive : s.activeTag d = some actTag) (hnew : s.tag newTag = .queued new n)
      (hact : s.tag actTag = .active act passed .rotate m)
      (h : s.overtakes d new newTag act passed = true) (hdrive : new.drive = d) :
      Move K s (s.overtake d new newTag act actTag passed)
  | joins (s : State) (d : Drive) (t : TagNo) (w : Work) (hK : K.drives d) (ht : K.accepts t s.nextStamp)
      (hfree : s.tag t = .free) (hbound : ∀ b, w.buffer? = some b → (s.buffer b).binding = .tag t) :
      Move K s (s.joinQueue d t w)
  /- The tag records. -/
  | completes (s : State) (t : TagNo) (d : Drive) (w : Work) (ht : K.accepts t s.nextStamp)
      (hfree : s.tag t = .free) (hw : w.buffer? = none) : Move K s (s.acceptDone t d w)
  | finishes (s : State) (t : TagNo) (r : Request) (st : Status) {p : Nat} {ph : Phase} {m : Bool}
      (h : s.tag t = .active r p ph m) : Move K s (s.finish t r st)
  | quits (s : State) (t : TagNo) (r : Request) (st : Status) {p : Nat} (hK : K.drives r.drive)
      (h : s.tag t = .queued r p) : Move K s ((s.leaveQueue r.drive t).finish t r st)
  | fails (s : State) (d : Drive) (st : Status) (hK : K.drives d) : Move K s (s.endRequests d st)
  | phase (s : State) (t : TagNo) (ph : Phase) : Move K s (s.setPhase t ph)
  | request (s : State) (t : TagNo) (f : Request → Request)
      (h : ∀ r, (f r).drive = r.drive ∧ (f r).session = r.session ∧ (f r).stamp = r.stamp
        ∧ (f r).work.buffer? = r.work.buffer?) : Move K s (s.onActive t f)
  | marks (s : State) (t : TagNo) (r : Request) (p : Nat) (ph : Phase) (m m' : Bool)
      (h : s.tag t = .active r p ph m) : Move K s (s.setTag t (.active r p ph m'))
  | releases (s : State) (t : TagNo) (r : Request) (x : Final) (h : s.tag t = .held r x) :
      Move K s (s.freeTag t)
  | withdraws (s : State) (t : TagNo) (r : Request) (x : Final) (h : s.tag t = .done r x) :
      Move K s ((s.withdrawReply t).freeTag t)
  | lets (s : State) (t : TagNo) (r : Request) (x : Final) (h : s.tag t = .sending r x false) :
      Move K s (s.setTag t (.sending r x true))
  | resends (s : State) (t : TagNo) (r : Request) (x : Final) (h : s.tag t = .held r x) :
      Move K s ((s.setTag t (.done r x)).listEntry (.reply t))
  /- The buffers. -/
  | binds (s : State) (t : TagNo) (b : BufNo) (h : (s.buffer b).binding = .free) :
      Move K s (s.bindBuffer b (.tag t))
  | fills (s : State) (b : BufNo) (x : Block)
      (h : (∃ p, s.pass = some p ∧ p.buffer = some b)
        ∨ ∃ t, s.tag t = .free ∧ (s.buffer b).binding = .tag t) : Move K s (s.fillBuffer b x)
  /- The bus and the passes. -/
  | reserves (s : State) (o : Option Drive) : Move K s { s with bus := { s.bus with reservation := o } }
  | holds (s : State) (d : Drive) (h : s.bus.holder = none) : Move K s (s.holdBus d .step)
  | lines (s : State) (dir : Direction) (steps : Pair Nat) :
      Move K s { s with port := { s.port with dir := dir, steps := steps } }
  | lands (s : State) (d : Drive) (x : Head) (h : (s.drive d).head.isStepping = true)
      (hx : x.isStepping = false) : Move K s (s.releaseBus.setHead d x)
  | grants (s : State) (d : Drive) (t : TagNo) (r : Request) (p : Pass) {c : Nat} {ph : Phase} {m : Bool}
      (hholder : s.bus.holder = none) (ht : s.tag t = .active r c ph m) (hd : r.drive = d)
      (hp : r.duePass t = some p) : Move K s ((s.grantPass d t r).beginPass p)
  | refuses (s : State) (d : Drive) (t : TagNo) (r : Request) (hholder : s.bus.holder = none) :
      Move K s (s.grantPass d t r).releaseBus
  | passBody (s : State) (p : Pass) (body : PassBody) (h : s.pass = some p)
      (hgate : ({ p with body := body } : Pass).gateOpen = p.gateOpen) :
      Move K s { s with pass := some { p with body := body } }
  | closes (s : State) (p : Pass) (body : PassBody) (h : s.pass = some p)
      (hgate : ({ p with body := body } : Pass).gateOpen = false) :
      Move K s { s.closeGate with pass := some { p with body := body } }
  | formats (s : State) (p : Pass) (fill : Byte) (completed n : Nat) (h : s.pass = some p) :
      Move K s (s.closeGate.beginFormatSector p fill completed n)
  | passEnds (s : State) (p : Pass) (b : Option BufNo) (h : s.pass = some p) (hb : b = none ∨ b = p.buffer) :
      Move K s (s.dropPass b)

/-- A sequence of moves. -/
abbrev Moves (K : Scope) : State → State → Prop := Relation.ReflTransGen (Move K)

/-- What every move keeps, every sequence of moves keeps. -/
theorem Moves.keeps {K : Scope} {P : State → Prop} (keep : ∀ s t, Move K s t → P s → P t) {s t : State}
    (h : Moves K s t) (hs : P s) : P t := by
  induction h with
  | refl => exact hs
  | tail _ hstep ih => exact keep _ _ hstep ih

/-- A happening leads from one state to another: by moves, and then by the beginning of a frame unless it
lists nothing (R140). -/
def State.Leads (K : Scope) (s t : State) : Prop :=
  ∃ q, Moves K s q ∧ (t = q.beginFrame ∨ t = q ∧ q.list = s.list)

section Functions

variable {K : Scope} {s : State} {d : Drive}

theorem Moves.of {t : State} (h : Move K s t) : Moves K s t := .single h

/-! ### Tags -/

theorem State.ownerPhase_moves (o : Owner) (ph : Phase) : Moves K s (s.ownerPhase o ph) := by
  cases o with
  | tag t => exact .of (.phase s t ph)
  | detached => exact .refl

theorem State.onOwner_moves (o : Owner) (f : Request → Request)
    (h : ∀ r, (f r).drive = r.drive ∧ (f r).session = r.session ∧ (f r).stamp = r.stamp
      ∧ (f r).work.buffer? = r.work.buffer?) : Moves K s (s.onOwner o f) := by
  cases o with
  | tag t => exact .of (.request s t f h)
  | detached => exact .refl

theorem State.clearReservation_moves : Moves K s (s.clearReservation d) := by
  rw [State.clearReservation_eq]
  exact .of (.reserves s _)

theorem State.releaseHeld_moves (t : TagNo) : Moves K s (s.releaseHeld t) := by
  unfold State.releaseHeld
  split
  · next h => exact .of (.releases s t _ _ h)
  · exact .refl

/-! ### Counters -/

theorem Stats.inBounds_iff {c : Stats} : c.inBounds = true ↔ c.sectorsRead ≤ 65535
    ∧ c.sectorsWritten ≤ 65535 ∧ c.failedAttempts ≤ 65535 ∧ c.misses ≤ 65535
    ∧ c.recalibrations ≤ 65535 := by
  simp [Stats.inBounds, and_assoc]

theorem State.raiseSectorsRead_moves : Moves K s (s.raiseSectorsRead d) :=
  .of (.stats s d _ fun h => by
    rw [Stats.inBounds_iff] at h ⊢
    exact ⟨bump_le h.1, h.2⟩)

theorem State.raiseSectorsWritten_moves : Moves K s (s.raiseSectorsWritten d) :=
  .of (.stats s d _ fun h => by
    rw [Stats.inBounds_iff] at h ⊢
    exact ⟨h.1, bump_le h.2.1, h.2.2⟩)

theorem State.raiseFailedAttempts_moves : Moves K s (s.raiseFailedAttempts d) :=
  .of (.stats s d _ fun h => by
    rw [Stats.inBounds_iff] at h ⊢
    exact ⟨h.1, h.2.1, bump_le h.2.2.1, h.2.2.2⟩)

theorem State.raiseMisses_moves : Moves K s (s.raiseMisses d) :=
  .of (.stats s d _ fun h => by
    rw [Stats.inBounds_iff] at h ⊢
    exact ⟨h.1, h.2.1, h.2.2.1, bump_le h.2.2.2.1, h.2.2.2.2⟩)

theorem State.raiseRecalibrations_moves : Moves K s (s.raiseRecalibrations d) :=
  .of (.stats s d _ fun h => by
    rw [Stats.inBounds_iff] at h ⊢
    exact ⟨h.1, h.2.1, h.2.2.1, h.2.2.2.1, bump_le h.2.2.2.2⟩)

theorem State.clearStats_moves (clear : Bool) : Moves K s (s.clearStats d clear) := by
  unfold State.clearStats
  split
  · exact .of (.stats s d _ fun _ => by decide)
  · exact .refl

/-! ### Motions -/

theorem Head.isStepping_of_motion {h : Head} {m : Motion} (hm : h.motion = some m)
    (hstage : m.stage = .stepping) : h.isStepping = true := by
  simp [Head.isStepping, hm, hstage]

/-- A motion may be replaced by one that is not STEPPING, or removed. -/
theorem State.setHead_moves {x : Head} (h : x.isStepping = false) : Moves K s (s.setHead d x) :=
  .of (.head s d x fun hx => by rw [h] at hx; cases hx)

theorem State.orderMotion_moves (t : TagNo) (k : MotionKind) (target : Nat) :
    Moves K s (s.orderMotion d t k target) :=
  (State.setHead_moves rfl).tail (.phase _ t .position)

theorem State.orphanMotion_moves : Moves K s (s.orphanMotion d) := by
  refine .of (.head s d _ fun h => .inl ?_)
  rcases hm : (s.drive d).head.motion with _ | m
  · simp [Head.isStepping, hm] at h
  · by_cases hw : m.stage = .waiting
    · simp [Head.isStepping, hm, Motion.orphan, hw] at h
    · simpa [Head.isStepping, hm, Motion.orphan, hw] using h

theorem State.stepPulse_moves (h : (s.drive d).head.isStepping = true) : Moves K s (s.stepPulse d) := by
  refine (Moves.of (.lines s s.port.dir (s.port.steps.set d (s.port.steps.get d + 1)))).tail ?_
  exact .head _ d _ fun _ => .inl h

theorem State.endStepping_moves (m : Motion) (h : (s.drive d).head.isStepping = true) :
    Moves K s (s.endStepping d m) :=
  (Moves.of (.lands s d _ h rfl)).trans (State.ownerPhase_moves m.owner .settle)

theorem State.seekStep_moves (m : Motion) (p : Nat) (h : (s.drive d).head.isStepping = true) :
    Moves K s (s.seekStep d m p) := by
  unfold State.seekStep
  split
  · exact State.endStepping_moves m h
  · refine (Moves.of (.head s d _ fun _ => .inl h)).trans (State.stepPulse_moves ?_)
    rw [State.drive_setHead]
    exact h

theorem State.beginSeek_moves (m : Motion) (p : Nat) (h : (s.drive d).head.isStepping = true) :
    Moves K s (s.beginSeek d m p) := by
  unfold State.beginSeek
  split
  · exact State.endStepping_moves m h
  · exact (Moves.of (.lines s _ s.port.steps)).trans (State.seekStep_moves m p h)

theorem State.failOwner_moves (o : Owner) : Moves K s (s.failOwner o) := by
  cases o with
  | detached => exact .refl
  | tag t =>
    unfold State.failOwner
    simp only
    split
    · next h => exact .of (.finishes s t _ .seekFail h)
    · exact .refl

theorem State.raiseEvent_drive (ev : DriveEvent) (e : Drive) :
    (s.raiseEvent d ev).drive e = s.drive e := by
  rw [State.raiseEvent_eq]
  rfl

theorem State.headFault_moves (m : Motion) (h : (s.drive d).head.isStepping = true) :
    Moves K s (s.headFault d m) := by
  refine ((Moves.of (.event s d .headFault)).tail (.lands _ d .lost ?_ rfl)).trans
    (State.failOwner_moves m.owner)
  rw [State.raiseEvent_drive]
  exact h

theorem State.trk0Check_moves {m : Motion} (hm : (s.drive d).head.motion = some m)
    (hstage : m.stage = .stepping) : Moves K s (s.trk0Check d m) := by
  have h := Head.isStepping_of_motion hm hstage
  unfold State.trk0Check
  split
  · refine (Moves.of (.head s d _ fun _ => .inl h)).trans (State.beginSeek_moves m 0 ?_)
    rw [State.drive_setHead]
    exact h
  · split
    · refine (Moves.of (.head s d _ fun _ => .inl h)).trans (State.stepPulse_moves ?_)
      rw [State.drive_setHead]
      exact Head.isStepping_of_motion rfl hstage
    · exact State.headFault_moves m h

/-! ### Grants and the end of a happening -/

theorem State.grantStep_moves (hholder : s.bus.holder = none) : Moves K s (s.grantStep d) := by
  unfold State.grantStep
  split
  · exact .refl
  · next m hm =>
    have hhold : Moves K s (s.holdBus d .step) := .of (.holds s d hholder)
    simp only
    split
    · refine (hhold.tail (.head _ d _ fun _ => .inr rfl)).trans (State.beginSeek_moves _ _ ?_)
      rw [State.drive_setHead]
      exact Head.isStepping_of_motion rfl rfl
    · refine (((hhold.tail (.head _ d _ fun _ => .inr rfl)).trans
        State.raiseRecalibrations_moves).tail (.lines _ .outward _)).trans
        (State.trk0Check_moves ?_ rfl)
      rw [State.raiseRecalibrations]
      show ((State.setStats _ d _).drive d).head.motion = _
      rw [State.drive_setStats, State.drive_setHead]

theorem State.grantOne_moves : Moves K s s.grantOne := by
  unfold State.grantOne
  split
  · next hholder =>
    split
    · exact State.grantStep_moves hholder
    · exact .refl
  · exact .refl

theorem State.arbitrate_moves : Moves K s s.arbitrate :=
  State.grantOne_moves.trans State.grantOne_moves

/-- Work, the grants and the beginning of a frame are a happening (R96, R140). -/
theorem Moves.endHappening {t : State} (h : Moves K s t) : s.Leads K t.endHappening :=
  ⟨t.arbitrate, h.trans State.arbitrate_moves, .inl rfl⟩

/-! ### The Scheduler -/

theorem State.runOnIfDue_moves (hK : K.drives d) : Moves K s (s.runOnIfDue d) := by
  rcases State.runOnIfDue_cases s d with h | ⟨-, hturning, -, -, h⟩
  · rw [h]
  · have hcond : (s.drive d).spindle.condition = .turning := (State.isTurning_iff s d).mp hturning
    rcases h with ⟨-, h⟩ | ⟨-, h⟩ <;> rw [h]
    · refine .of (.spindle s d _ hK (.stops .unknown fun hx => ?_))
      rw [hx] at hcond
      cases hcond
    · exact .of (.spindle s d _ hK (.runsOn _ hcond))

theorem State.decisions_moves (hK : K.drives d) (n : Nat) : Moves K s (s.decisions d n) :=
  State.decisions_induction (P := Moves K s)
    (fun u h hfree hturning _ => h.tail (.decides u d hK hfree hturning)) n s .refl

theorem State.afterFree_moves (hK : K.drives d) : Moves K s (s.afterFree d) :=
  (State.decisions_moves hK _).trans (State.runOnIfDue_moves hK)

theorem State.tryOvertake_moves {t : TagNo} {new : Request} {n : Nat} (hK : K.drives d)
    (ht : s.tag t = .queued new n) (hdrive : new.drive = d) : Moves K s (s.tryOvertake d t) := by
  unfold State.tryOvertake
  split
  · exact .refl
  · next actTag hactive =>
    rw [ht]
    split
    · next new' n' act passed m hnew hact =>
      cases hnew
      split
      · next h => exact .of (.overtakes s d new act t actTag n passed m hK hactive ht hact h hdrive)
      · exact .refl
    · exact .refl

theorem State.acceptedAt_moves {t : TagNo} {r : Request} {n : Nat} (hK : K.drives d)
    (ht : s.tag t = .queued r n) (hdrive : r.drive = d) : Moves K s (s.acceptedAt d t) := by
  unfold State.acceptedAt
  split
  · next h => exact .of (.spindle s d _ hK (.starts h))
  · next h =>
    split
    · exact (Moves.of (.spindle s d _ hK (.runsOn none h))).trans (State.afterFree_moves hK)
    · exact State.tryOvertake_moves hK ht hdrive
  · exact .refl
  · exact .refl

theorem State.enqueue_moves {t : TagNo} {w : Work} (hK : K.drives d) (ht : K.accepts t s.nextStamp)
    (hfree : s.tag t = .free) (hbound : ∀ b, w.buffer? = some b → (s.buffer b).binding = .tag t) :
    Moves K s (s.enqueue d t w) := by
  rw [State.enqueue_eq]
  refine (Moves.of (.joins s d t w hK ht hfree hbound)).trans
    (State.acceptedAt_moves hK (State.tag_setTag _ t _) rfl)

end Functions

end Sys2Proof.Machine

/-! ## Every command as moves

The passes, the failures, the Request Table and the link, function by function, and then `exec_leads`. -/

namespace Sys2Proof.Machine

section Functions

variable {K : Scope} {s : State} {d : Drive}

/-! ### Passes -/

theorem State.placeData_moves {p : Pass} (h : s.pass = some p) : Moves K s (s.placeData p) := by
  unfold State.placeData
  split
  · next b data hb _ => exact .of (.fills s b data (.inl ⟨p, h, hb⟩))
  · exact .refl

theorem State.placeData_eq (s : State) (p : Pass) :
    s.placeData p = { s with buffers := (s.placeData p).buffers } := by
  unfold State.placeData
  split <;> rfl

theorem State.placeData_pass (s : State) (p : Pass) : (s.placeData p).pass = s.pass := by
  rw [State.placeData_eq]

theorem Work.setLadder_buffer (w : Work) (l : Ladder) : (w.setLadder l).buffer? = w.buffer? := by
  cases w <;> rfl

theorem Work.setCheckDue_buffer (w : Work) (due : Bool) : (w.setCheckDue due).buffer? = w.buffer? := by
  cases w <;> rfl

theorem State.finishTag_active_moves {t : TagNo} {r : Request} {c : Nat} {ph : Phase} {m : Bool}
    (st : Status) (h : s.tag t = .active r c ph m) : Moves K s (s.finishTag t st) := by
  rw [State.finishTag_active h]
  exact .of (.finishes s t r st h)

/-- A failed attempt leaves a request of the same drive, session, stamp and buffer (R117). -/
theorem State.ladder_moves {t : TagNo} {r : Request} (l : Ladder) (check : Bool) {c : Nat} {ph : Phase}
    {m : Bool} (h : s.tag t = .active r c ph m) :
    Moves K s (s.onActive t fun x =>
      { x with work := (if check then r.work.setCheckDue false else r.work).setLadder l }) := by
  have hrequest : s.onActive t (fun x =>
      { x with work := (if check then r.work.setCheckDue false else r.work).setLadder l })
      = s.onActive t fun x =>
        { x with work := (if check then x.work.setCheckDue false else x.work).setLadder l } := by
    rw [State.onActive_active h, State.onActive_active h]
  rw [hrequest]
  refine .of (.request s t _ fun x => ⟨rfl, rfl, rfl, ?_⟩)
  cases check
  · exact Work.setLadder_buffer _ l
  · exact (Work.setLadder_buffer _ l).trans (Work.setCheckDue_buffer _ false)

theorem State.failAttempt_moves {t : TagNo} {r : Request} (check : Bool) (o : Outcome) {c : Nat}
    {ph : Phase} {m : Bool} (h : s.tag t = .active r c ph m) :
    Moves K s (s.failAttempt t r check o) := by
  unfold State.failAttempt
  split
  · exact .refl
  · next l _ =>
    have hraised : Moves K s (s.raiseFailedAttempts r.drive) := State.raiseFailedAttempts_moves
    have hladder : ∀ new : Ladder, Moves K s ((s.raiseFailedAttempts r.drive).onActive t fun x =>
        { x with work := (if check then r.work.setCheckDue false else r.work).setLadder new }) :=
      fun new => hraised.trans (State.ladder_moves new check h)
    simp only
    split
    · have htag : ∀ f, ((s.raiseFailedAttempts r.drive).onActive t f).tag t = .active (f r) c ph m := by
        intro f
        rw [State.onActive_active (s := s.raiseFailedAttempts r.drive) h]
        exact State.tag_setTag _ t _
      exact (hladder _).trans (State.finishTag_active_moves _ (htag _))
    · split
      · exact (hladder _).trans (State.orderMotion_moves t _ _)
      · exact (hladder _).tail (.phase _ t .rotate)

theorem State.settleOutcome_moves {t : TagNo} {r : Request} (body : PassBody) {c : Nat} {ph : Phase}
    {m : Bool} (h : s.tag t = .active r c ph m) : Moves K s (s.settleOutcome t r body) := by
  unfold State.settleOutcome
  split
  · exact State.raiseSectorsRead_moves.trans (State.finishTag_active_moves .ok h)
  · exact State.finishTag_active_moves .ok h
  · split
    · exact .of (.phase s t .rotate)
    · exact State.finishTag_active_moves .ok h
  · exact State.finishTag_active_moves .ok h
  · exact State.failAttempt_moves _ _ h

/-- The hold of a pass and its record cease together, then its outcome reaches the owner (R107). -/
theorem State.endPass_moves {p : Pass} (h : s.pass = some p) : Moves K s (s.endPass p) := by
  have hplaced : Moves K s (s.placeData p) := State.placeData_moves h
  have hpass : (s.placeData p).pass = some p := (State.placeData_pass s p).trans h
  have hdropped : Moves K s ((s.placeData p).dropPass none) :=
    hplaced.tail (.passEnds _ p none hpass (.inl rfl))
  show Moves K s (State.deliver _ p)
  unfold State.deliver
  split
  · exact hplaced.tail (.passEnds _ p p.buffer hpass (.inr rfl))
  · split
    · next ht => exact hdropped.tail (.finishes _ _ _ .aborted ht)
    · next ht => exact hdropped.trans (State.settleOutcome_moves p.body ht)
    · exact hdropped

/-- The gate closes with the hold of the pass in any case (R101, R115). -/
theorem State.closeGate_endPass (s : State) (p : Pass) : s.closeGate.endPass p = s.endPass p := by
  have h : s.closeGate.placeData p = (s.placeData p).closeGate := by
    unfold State.placeData
    split <;> rfl
  rw [State.endPass, State.endPass, h]
  rfl

theorem State.passStage_moves (pulse : Pulse) : Moves K s (s.passStage d pulse) := by
  unfold State.passStage
  split
  · exact .refl
  · next p hp =>
    split
    · split
      · next fill _ completed stop n _ =>
        unfold State.formatSectorPulse
        split
        · rw [State.closeGate_endPass]
          exact State.endPass_moves hp
        · exact .of (.formats s p fill completed n hp)
      · exact State.endPass_moves hp
    · exact .refl

theorem Request.duePass_of_startingPulse {r : Request} {t : TagNo} (h : r.work.startingPulse.isSome = true) :
    ∃ p, r.duePass t = some p := by
  unfold Request.duePass
  cases hw : r.work <;> rw [hw] at h
  case read | write | verify | format => exact ⟨_, rfl⟩
  all_goals cases h

theorem State.passNeed_moves {t : TagNo} {r : Request} {c : Nat} {k : Bool} {pulse : Pulse}
    (hdrive : r.drive = d) (htag : s.tag t = .active r c .rotate k)
    (hpulse : r.work.startingPulse = some pulse) : Moves K s (s.passNeed d t r) := by
  obtain ⟨p, hp⟩ := Request.duePass_of_startingPulse (r := r) (t := t) (by rw [hpulse]; rfl)
  by_cases hmiss : s.bus.holder ≠ none ∨ s.bus.reservation = some d.other
  · rw [State.passNeed_missed hmiss, State.miss_eq]
    exact State.raiseMisses_moves.tail (.reserves _ _)
  · obtain ⟨hfree, hunbarred⟩ := not_or.mp hmiss
    rw [not_not] at hfree
    rw [State.passNeed_granted htag hfree hunbarred hp]
    split
    · rw [State.writeProtected_active (State.grantPass_tag htag)]
      exact (Moves.of (.refuses s d t r hfree)).tail
        (.finishes _ t r .writeProtected (State.grantPass_tag htag))
    · exact .of (.grants s d t r p hfree htag hdrive hp)

theorem State.needStage_moves (pulse : Pulse) : Moves K s (s.needStage d pulse) := by
  unfold State.needStage
  split
  · exact .refl
  · next t hactive =>
    split
    · next r _ k htag =>
      split
      · next hpulse => exact State.passNeed_moves (State.activeTag_drive hactive htag) htag hpulse
      · exact .refl
    · exact .refl

theorem State.handPulse_moves (hK : K.drives d) (pulse : Pulse) : Moves K s (s.handPulse d pulse) :=
  ((State.passStage_moves pulse).trans (State.needStage_moves pulse)).trans (State.afterFree_moves hK)

/-- A change of the pass's body that leaves the gate as it is. -/
theorem State.onPassBody_moves {f : Pass → PassBody}
    (h : ∀ p : Pass, ({ p with body := f p } : Pass).gateOpen = p.gateOpen) :
    Moves K s (s.onPassBody f) := by
  unfold State.onPassBody
  split
  · next p hp => exact .of (.passBody s p (f p) hp (h p))
  · exact .refl

theorem State.onOwner_eq (s : State) (o : Owner) (f : Request → Request) :
    s.onOwner o f = { s with tags := (s.onOwner o f).tags } := by
  cases o with
  | tag t => exact State.onActive_eq s t f
  | detached => rfl

theorem State.onOwner_pass (s : State) (o : Owner) (f : Request → Request) (p : Option Pass) :
    ({ s.onOwner o f with pass := p } : State) = ({ s with pass := p } : State).onOwner o f := by
  cases o with
  | detached => rfl
  | tag t =>
    show ({ s.onActive t f with pass := p } : State) = ({ s with pass := p } : State).onActive t f
    have htag : ({ s with pass := p } : State).tag t = s.tag t := rfl
    unfold State.onActive
    rw [htag]
    split <;> rfl

theorem State.writeDone_moves : Moves K s s.writeDone := by
  unfold State.writeDone
  split
  · next p hp =>
    split
    · next n _ =>
      simp only [State.onOwner_pass]
      refine ((Moves.of (.closes s p (.writing n .complete) hp rfl)).trans
        (State.raiseSectorsWritten_moves (d := p.drive))).trans
        (State.onOwner_moves p.owner _ fun r => ⟨rfl, rfl, rfl, ?_⟩)
      unfold Request.wrote
      dsimp only
      split
      · exact Work.setCheckDue_buffer _ true
      · rfl
    · exact .refl
  · exact .refl

theorem State.formatSectorDone_moves : Moves K s s.formatSectorDone := by
  unfold State.formatSectorDone
  split
  · next p hp =>
    split
    · next fill n completed stop _ =>
      simp only [State.onOwner_pass]
      exact ((Moves.of (.closes s p (.formatting fill (some ⟨n, .complete⟩) (completed + 1) stop) hp
        rfl)).trans (State.raiseSectorsWritten_moves (d := p.drive))).trans
        (State.onOwner_moves p.owner _ fun r => ⟨rfl, rfl, rfl, rfl⟩)
    · exact .refl
  · exact .refl

theorem PassBody.syncFound_gateOpen (p : Pass) :
    ({ p with body := p.body.syncFound } : Pass).gateOpen = p.gateOpen := by
  unfold PassBody.syncFound
  split
  · next h => simp only [Pass.gateOpen, h]
  · rfl

theorem Pass.idArrived_gateOpen (a b : Byte) (p : Pass) :
    ({ p with body := p.idArrived a b } : Pass).gateOpen = p.gateOpen := by
  unfold Pass.idArrived
  split
  · next h => split <;> simp only [Pass.gateOpen, h]
  · rfl

theorem Pass.recordArrived_gateOpen (data : Block) (received : Word16) (contents : Option Block)
    (p : Pass) :
    ({ p with body := p.recordArrived data received contents } : Pass).gateOpen = p.gateOpen := by
  unfold Pass.recordArrived
  split
  · next h => simp only [Pass.gateOpen, h]
  · rfl

/-! ### Drive failures -/

theorem State.cutPass_moves : Moves K s (s.cutPass d) := by
  unfold State.cutPass
  split
  · exact .refl
  · next p hp =>
    split
    · simp only
      split
      · exact .of (.passEnds s p p.buffer hp (.inr rfl))
      · exact .of (.passEnds s p none hp (.inl rfl))
    · exact .refl

theorem State.freeBuffer_drive (b : Option BufNo) (e : Drive) : (s.freeBuffer b).drive e = s.drive e := by
  rw [State.freeBuffer_eq]
  rfl

theorem State.cutPass_drive (e : Drive) : (s.cutPass d).drive e = s.drive e := by
  unfold State.cutPass
  split
  · rfl
  · split
    · simp only
      split
      · exact State.freeBuffer_drive _ e
      · rfl
    · rfl

theorem State.finish_drive (t : TagNo) (r : Request) (st : Status) (e : Drive) :
    (s.finish t r st).drive e = s.drive e := rfl

theorem State.failTag_drive (t : TagNo) (st : Status) (e : Drive) :
    (s.failTag t st).drive e = s.drive e := by
  unfold State.failTag
  split
  · rfl
  · unfold State.finishTag
    split <;> rfl

theorem State.foldl_failTag_drive (st : Status) (e : Drive) : ∀ (l : List TagNo) (s : State),
    (l.foldl (fun s t => s.failTag t st) s).drive e = s.drive e
  | [], _ => rfl
  | t :: l, _ => (State.foldl_failTag_drive st e l _).trans (State.failTag_drive t st e)

theorem State.endRequests_drive (st : Status) :
    (s.endRequests d st).drive d = { s.drive d with queue := [] } := by
  rw [State.endRequests, State.foldl_failTag_drive, State.drive_setQueue]

/-- A drive failure of a spindle that turns or has a timer running (R73 to R76). -/
theorem State.failDrive_leads (hK : K.drives d) (ev : DriveEvent) (st : Status) (m : Media)
    (hlive : (s.drive d).spindle ≠ .still .undefined .unknown) :
    s.Leads K (s.failDrive d ev st m) := by
  refine Moves.endHappening (((((Moves.of (.event s d ev)).trans State.cutPass_moves).trans
    State.clearReservation_moves).trans State.orphanMotion_moves).tail (.fails _ d st hK) |>.tail
    (.spindle _ d _ hK (.stops m ?_)))
  rw [State.endRequests_drive, State.orphanMotion_drive, State.drive_clearReservation,
    State.cutPass_drive, State.raiseEvent_drive]
  exact hlive

/-! ### Spindles and heads -/

/-- A command that only moves the part and lists nothing. -/
theorem Moves.leads {t : State} (h : Moves K s t) (hlist : t.list = s.list) : s.Leads K t :=
  ⟨t, h, .inr ⟨rfl, hlist⟩⟩

theorem State.Leads.refl : s.Leads K s := Moves.leads .refl rfl

/-- What a happening does after its command's levels are taken over (log entry 1). -/
theorem State.Leads.facing {lv : Levels} {t : State} (h : (s.withLevels lv).Leads K t) : s.Leads K t := by
  obtain ⟨q, hq, hend⟩ := h
  exact ⟨q, (Moves.of (.levels s lv)).trans hq, hend⟩

theorem Spindle.ne_undefined_of_condition {x : Spindle} (h : x.condition ≠ .undefined) :
    x ≠ .still .undefined .unknown := fun hx => h (by rw [hx]; rfl)

theorem State.wrongMedia_leads (hK : K.drives d) (h : (s.drive d).spindle.condition ≠ .undefined) :
    s.Leads K (s.wrongMedia d) :=
  State.failDrive_leads hK _ _ _ (Spindle.ne_undefined_of_condition h)

theorem State.setMeasure_leads (hK : K.drives d) (m : Measure)
    (h : (s.drive d).spindle.condition = .starting) : s.Leads K (s.setMeasure d m) :=
  Moves.leads (.of (.spindle s d _ hK (.measures m h))) rfl

theorem State.measureIndex_leads (hK : K.drives d) (m : Measure) (interval : Word16)
    (h : (s.drive d).spindle.condition = .starting) : s.Leads K (s.measureIndex d m interval) := by
  unfold State.measureIndex
  split
  · exact State.setMeasure_leads hK _ h
  · split
    · exact State.setMeasure_leads hK _ h
    · split
      · split
        · exact Moves.endHappening
            ((Moves.of (.spindle s d _ hK (.turns interval h))).trans (State.afterFree_moves hK))
        · exact State.wrongMedia_leads hK (by rw [h]; decide)
      · exact State.setMeasure_leads hK _ h

theorem State.turnIndex_leads (hK : K.drives d) (h : (s.drive d).spindle.condition = .turning) :
    s.Leads K (s.turnIndex d) := by
  unfold State.turnIndex
  split
  · exact Moves.endHappening
      ((Moves.of (.spindle s d _ hK (.index h))).trans (State.handPulse_moves hK .index))
  · exact State.wrongMedia_leads hK (by rw [h]; decide)

theorem State.turnSector_leads (hK : K.drives d) (h : (s.drive d).spindle.condition = .turning) :
    s.Leads K (s.turnSector d) := by
  unfold State.turnSector
  split
  · next n hn =>
    exact Moves.endHappening
      ((Moves.of (.spindle s d _ hK (.sector n h hn))).trans (State.handPulse_moves hK (.sector n)))
  · exact State.wrongMedia_leads hK (by rw [h]; decide)

theorem State.indexPulse_leads (hK : K.drives d) (interval : Word16) :
    s.Leads K (s.indexPulse d interval) := by
  unfold State.indexPulse
  split
  · exact .refl
  · exact .refl
  · next h =>
    split
    · exact State.measureIndex_leads hK _ interval h
    · exact .refl
  · next h => exact State.turnIndex_leads hK h

theorem State.sectorPulse_leads (hK : K.drives d) : s.Leads K (s.sectorPulse d) := by
  unfold State.sectorPulse
  split
  · exact .refl
  · exact .refl
  · next h =>
    split
    · exact State.setMeasure_leads hK _ h
    · exact .refl
  · next h => exact State.turnSector_leads hK h

theorem State.spinUpExpired_leads (hK : K.drives d) : s.Leads K (s.spinUpExpired d) := by
  unfold State.spinUpExpired
  split
  · exact .refl
  · next h =>
    have hlive : (s.drive d).spindle ≠ .still .undefined .unknown := fun hx => by
      rw [hx] at h
      cases h
    split <;> exact State.failDrive_leads hK _ _ _ hlive

theorem State.watchdogExpired_leads (hK : K.drives d) : s.Leads K (s.watchdogExpired d) := by
  unfold State.watchdogExpired
  split
  · exact .refl
  · next h =>
    refine State.failDrive_leads hK _ _ _ fun hx => ?_
    rw [hx] at h
    cases h

theorem State.runOnExpired_leads (hK : K.drives d) : s.Leads K (s.runOnExpired d) := by
  unfold State.runOnExpired
  split
  · exact .refl
  · next h =>
    refine Moves.leads (.of (.spindle s d _ hK (.stops .unknown fun hx => ?_))) rfl
    rw [hx] at h
    cases h

theorem State.stepExpired_leads (hK : K.drives d) : s.Leads K (s.stepExpired d) := by
  unfold State.stepExpired
  split
  · next m _ hm =>
    split
    · next hstage =>
      split
      · exact Moves.endHappening ((State.trk0Check_moves hm hstage).trans (State.afterFree_moves hK))
      · exact Moves.endHappening
          (State.seekStep_moves m _ (Head.isStepping_of_motion hm hstage))
    · exact .refl
  · exact .refl

theorem State.settledOwner_moves (o : Owner) : Moves K s (s.settledOwner o) := by
  cases o with
  | detached => exact .refl
  | tag t =>
    unfold State.settledOwner
    simp only
    split
    · next h =>
      split
      · exact .of (.phase s t .rotate)
      · exact .of (.finishes s t _ .ok h)
    · exact .refl

theorem State.settleExpired_leads (hK : K.drives d) : s.Leads K (s.settleExpired d) := by
  unfold State.settleExpired
  split
  · split
    · exact Moves.endHappening (((State.setHead_moves rfl).trans (State.settledOwner_moves _)).trans
        (State.afterFree_moves hK))
    · exact .refl
  · exact .refl

end Functions

end Sys2Proof.Machine

namespace Sys2Proof

/-- The commands that reset the part, move HOLD, or end the frame on TXD; every other one is work of the
part (R140, R141, R163). -/
def Instr.isSignal : Instr → Bool
  | .resetBegin _ | .hardwareReset _ _ | .holdAsserted | .holdDeasserted | .frameEnd => true
  | _ => false

end Sys2Proof

namespace Sys2Proof.Machine

/-! ### Frames that pass their checks -/

theorem runChecks_ok {α : Type} {rows : List (Bool × Reason)} (a : α) (h : ∀ row ∈ rows, row.1 = false) :
    runChecks rows a = .ok a := by
  induction rows with
  | nil => rfl
  | cons row rows ih =>
    obtain ⟨fails, e⟩ := row
    obtain rfl : fails = false := h _ List.mem_cons_self
    exact ih fun x hx => h x (List.mem_cons_of_mem _ hx)

theorem State.firstFailure_none {s : State} {f : Frame} :
    s.firstFailure f = none ↔ ∀ row ∈ s.checks f, row.1 = false := by
  simp [State.firstFailure, List.find?_eq_none]

/-- A frame whose checks run the rows of Table 1-3 is accepted when no row fails (R5). -/
theorem State.judged_accepts {α : Type} {s : State} {f : Frame} {check : Except Reason α} {a : α}
    {accept : α → State} (hcheck : check = runChecks (s.checks f) a) (hpass : s.firstFailure f = none) :
    s.judged f check accept = accept a :=
  State.judged_ok (hcheck.trans (runChecks_ok a (State.firstFailure_none.mp hpass)))

section Passed

variable {s : State} {f : Frame} (hkind : isControl f.kind = false) (hpass : s.firstFailure f = none)
include hkind hpass

theorem State.row_passes {row : Bool × Reason} (h : row ∈ s.headerRows f ++ s.requestRows f ++ s.acceptRows f) :
    row.1 = false :=
  State.firstFailure_none.mp hpass row (State.checks_of_request hkind ▸ h)

/-- Check 6 has passed: the tag is FREE or HELD (R8). -/
theorem State.not_busy_of_passed : (s.tag f.tagNo).busy = false :=
  State.row_passes hkind hpass (row := ((s.tag f.tagNo).busy, .tagBusy)) (by simp [State.requestRows])

/-- Check 10 has passed: a buffer can be bound (R11). -/
theorem State.buffer_of_passed (hbinds : f.kind = 0x10 ∨ f.kind = 0x11) :
    ((List.finRange 8).all fun b => !s.freeFor f.tagNo b) = false := by
  have h := State.row_passes hkind hpass (row := ((f.kind == 0x10 || f.kind == 0x11)
    && (List.finRange 8).all fun b => !s.freeFor f.tagNo b, .noBuffer)) (by simp [State.acceptRows])
  rcases hbinds with hk | hk <;> simpa [hk] using h

/-- Check 11 of a DEFINE has passed: the drive is idle (R11). -/
theorem State.idle_of_passed (hdefine : f.kind = 0x02) : s.isIdle f.driveNo = true := by
  have h := State.row_passes hkind hpass (row := (f.kind == 0x02 && !s.isIdle f.driveNo, .driveBusy))
    (by simp [State.acceptRows])
  simpa [hdefine] using h

/-- Check 9 has passed: the parameters are in range (R10). -/
theorem State.inRange_of_passed : paramsInRange (s.geometry f.driveNo) f = true := by
  have h := State.row_passes hkind hpass
    (row := (!paramsInRange (s.geometry f.driveNo) f, .outOfRange)) (by simp [State.acceptRows])
  simpa using h

/-- Check 2 has passed: the body has the length of its kind (R6). -/
theorem State.length_of_passed : bodyLength f.kind = some f.body.length := by
  have h := State.row_passes hkind hpass
    (row := (bodyLength f.kind != some f.body.length, .badLength)) (by simp [State.headerRows])
  simpa using h

end Passed

/-- A buffer that can be bound is found: the lowest-numbered (R128). -/
theorem State.lowestFree_boundFor {s : State} {t : TagNo}
    (h : ((List.finRange 8).all fun b => !s.freeFor t b) = false) :
    (s.releaseHeld t).lowestFree = some (s.boundFor t) := by
  rcases hb : (s.releaseHeld t).lowestFree with _ | b
  · rw [State.lowestFree_none] at hb
    have hall : ((List.finRange 8).all fun b => !s.freeFor t b) = true := by
      rw [List.all_eq_true]
      intro b _
      simpa [State.releaseHeld_free_iff] using hb b
    rw [hall] at h
    cases h
  · rw [State.boundFor, hb]
    rfl

/-- The gate of a format revolution is that of its current sector (R115). -/
theorem Pass.gateOpen_of_formatting {p : Pass} {fill : Byte} {current : Option FormatSector}
    {completed : Nat} {stop : Bool} (h : p.body = .formatting fill current completed stop) :
    p.gateOpen = current.any fun x => x.stage == .gateOpen := by
  rw [Pass.gateOpen, h]
  rcases current with _ | ⟨n, _ | _⟩ <;> rfl

/-- The ranges of a DEFINE are those of Table 3-2 (R47, R49). -/
theorem recordOf_inRange {g : DriveRecord} {f : Frame} (hkind : f.kind = 0x02)
    (h : paramsInRange g f = true) : (recordOf f).inRange = true := by
  have hoperand := recordOperand_eq g hkind
  rw [h] at hoperand
  by_contra hout
  rw [recordOperand, if_neg hout] at hoperand
  cases hoperand

section Functions

variable {K : Scope} {s : State}

/-! ### Acceptance -/

theorem State.releaseHeld_nextStamp (t : TagNo) : (s.releaseHeld t).nextStamp = s.nextStamp := by
  obtain ⟨-, -, -, h⟩ := State.releaseHeld_spec s t
  rw [h]

theorem State.releaseHeld_drive (t : TagNo) (d : Drive) : (s.releaseHeld t).drive d = s.drive d := by
  obtain ⟨-, -, -, h⟩ := State.releaseHeld_spec s t
  rw [h]
  rfl

/-- A tag that is not busy is FREE after the implicit release (R13). -/
theorem State.releaseHeld_free {t : TagNo} (h : (s.tag t).busy = false) :
    (s.releaseHeld t).tag t = .free := by
  obtain ⟨-, htag, -, -⟩ := State.releaseHeld_spec s t
  rw [htag]
  cases ht : s.tag t <;> rw [ht] at h
  case queued | active | done | sending => cases h

theorem State.clearStats_tag (s : State) (d : Drive) (clear : Bool) (t : TagNo) :
    (s.clearStats d clear).tag t = s.tag t := by
  cases clear <;> rfl

theorem State.clearStats_nextStamp (s : State) (d : Drive) (clear : Bool) :
    (s.clearStats d clear).nextStamp = s.nextStamp := by
  cases clear <;> rfl

theorem State.isIdle_releaseHeld {t : TagNo} (d : Drive) (h : s.isIdle d = true) :
    (s.releaseHeld t).isIdle d = true := by
  obtain ⟨hothers, hself, -, hrest⟩ := State.releaseHeld_spec s t
  have hactive : ∀ u, ((s.releaseHeld t).tag u).activeOn d = (s.tag u).activeOn d := by
    intro u
    by_cases hu : u = t
    · subst hu
      rw [hself]
      cases s.tag u <;> rfl
    · rw [hothers u hu]
  have hpass : (s.releaseHeld t).pass = s.pass := by rw [hrest]
  have hunits : (s.releaseHeld t).drive d = s.drive d := State.releaseHeld_drive t d
  have hfind : (s.releaseHeld t).activeTag d = s.activeTag d := by
    simp only [State.activeTag, hactive]
  simp only [State.isIdle, State.isFree, State.detachedMotion, State.detachedPass, hunits, hpass,
    hfind] at h ⊢
  exact h

variable (hD : ∀ d, K.drives d) (hT : ∀ t, (s.tag t).busy = false → K.accepts t s.nextStamp)
include hD hT

/-- An acceptance that binds no buffer (R13, R14). -/
theorem State.accept_moves_unbound {t : TagNo} {d : Drive} {w : Work} (hbusy : (s.tag t).busy = false)
    (hw : w.buffer? = none) : Moves K s (s.accept ⟨t, d, w⟩) := by
  have hbind : (s.releaseHeld t).bindWork t w = s.releaseHeld t := by rw [State.bindWork, hw]
  show Moves K s (((s.releaseHeld t).bindWork t w).enqueue d t w)
  rw [hbind]
  refine (State.releaseHeld_moves t).trans
    (State.enqueue_moves (hD d) ?_ (State.releaseHeld_free hbusy) (by rw [hw]; nofun))
  rw [State.releaseHeld_nextStamp]
  exact hT t hbusy

/-- An acceptance that binds the lowest-numbered free buffer, and fills it or not (R13, R14, R129). -/
theorem State.accept_moves_bound {t : TagNo} {d : Drive} {w : Work} {b : BufNo} {q : State}
    (hbusy : (s.tag t).busy = false) (hw : w.buffer? = some b)
    (hb : (s.releaseHeld t).lowestFree = some b)
    (hq : q = (s.releaseHeld t).bindBuffer b (.tag t)
      ∨ ∃ data, q = ((s.releaseHeld t).bindBuffer b (.tag t)).fillBuffer b data) :
    Moves K s (q.enqueue d t w) := by
  have hfree := State.releaseHeld_free hbusy
  have hbound : Moves K s ((s.releaseHeld t).bindBuffer b (.tag t)) :=
    (State.releaseHeld_moves t).tail (.binds _ t b (State.lowestFree_some hb).1)
  have hbinding : (((s.releaseHeld t).bindBuffer b (.tag t)).buffer b).binding = .tag t := by
    rw [State.buffer_bindBuffer_eq, if_pos rfl]
  have haccepts : K.accepts t (s.releaseHeld t).nextStamp := by
    rw [State.releaseHeld_nextStamp]
    exact hT t hbusy
  have hself : ∀ c, w.buffer? = some c → c = b := fun c hc => by
    rw [hw] at hc
    exact (Option.some.inj hc).symm
  rcases hq with rfl | ⟨data, rfl⟩
  · refine hbound.trans (State.enqueue_moves (hD d) haccepts hfree fun c hc => ?_)
    rw [hself c hc, hbinding]
  · refine (hbound.tail (.fills _ b data (.inr ⟨t, hfree, hbinding⟩))).trans
      (State.enqueue_moves (hD d) haccepts hfree fun c hc => ?_)
    rw [hself c hc, State.buffer_fillBuffer_eq, if_pos rfl]
    exact hbinding

omit hD hT in
/-- A frame that runs the rows of Table 1-3 moves the part if its acceptance does. -/
theorem State.judged_moves {α : Type} {f : Frame} {check : Except Reason α} {a : α} {accept : α → State}
    (hcheck : check = runChecks (s.checks f) a)
    (haccept : s.firstFailure f = none → Moves K s (accept a)) : Moves K s (s.judged f check accept) := by
  rcases h : s.firstFailure f with _ | e
  · rw [State.judged_accepts hcheck h]
    exact haccept h
  · rw [State.judged_refuses hcheck h]
    exact .of (.notice s e f.kind f.tag)

theorem State.takeRead_moves {f : Frame} (hk : f.kind = 0x10) : Moves K s (s.takeRead f) := by
  refine State.judged_moves (checkRead_eq hk) fun hpass => ?_
  have hkind : isControl f.kind = false := by rw [hk]; rfl
  exact State.accept_moves_bound hD hT (State.not_busy_of_passed hkind hpass) rfl
    (State.lowestFree_boundFor (State.buffer_of_passed hkind hpass (.inl hk))) (.inl rfl)

theorem State.takeWrite_moves {f : Frame} (hk : f.kind = 0x11) : Moves K s (s.takeWrite f) := by
  refine State.judged_moves (checkWrite_eq hk) fun hpass => ?_
  have hkind : isControl f.kind = false := by rw [hk]; rfl
  exact State.accept_moves_bound hD hT (State.not_busy_of_passed hkind hpass) rfl
    (State.lowestFree_boundFor (State.buffer_of_passed hkind hpass (.inr hk))) (.inr ⟨_, rfl⟩)

theorem State.takeVerify_moves {f : Frame} (hk : f.kind = 0x12) : Moves K s (s.takeVerify f) :=
  State.judged_moves (checkVerify_eq hk) fun hpass =>
    State.accept_moves_unbound hD hT (State.not_busy_of_passed (by rw [hk]; rfl) hpass) rfl

theorem State.takeFormat_moves {f : Frame} (hk : f.kind = 0x13) : Moves K s (s.takeFormat f) :=
  State.judged_moves (checkFormat_eq hk) fun hpass =>
    State.accept_moves_unbound hD hT (State.not_busy_of_passed (by rw [hk]; rfl) hpass) rfl

theorem State.takeSeek_moves {f : Frame} (hk : f.kind = 0x14) : Moves K s (s.takeSeek f) :=
  State.judged_moves (checkSeek_eq hk) fun hpass =>
    State.accept_moves_unbound hD hT (State.not_busy_of_passed (by rw [hk]; rfl) hpass) rfl

theorem State.takeRecal_moves {f : Frame} (hk : f.kind = 0x15) : Moves K s (s.takeRecal f) :=
  State.judged_moves (checkRecal_eq hk) fun hpass =>
    State.accept_moves_unbound hD hT (State.not_busy_of_passed (by rw [hk]; rfl) hpass) rfl

theorem State.takeDefine_moves {f : Frame} (hk : f.kind = 0x02) : Moves K s (s.takeDefine f) := by
  refine State.judged_moves (checkDefine_eq hk) fun hpass => ?_
  have hkind : isControl f.kind = false := by rw [hk]; rfl
  have hbusy := State.not_busy_of_passed hkind hpass
  refine ((State.releaseHeld_moves f.tagNo).tail (.redefines _ f.driveNo (recordOf f) (hD _)
    (State.isIdle_releaseHeld _ (State.idle_of_passed hkind hpass hk))
    (recordOf_inRange hk (State.inRange_of_passed hkind hpass)))).tail
    (.completes _ f.tagNo f.driveNo .define ?_ (State.releaseHeld_free hbusy) rfl)
  show K.accepts f.tagNo (s.releaseHeld f.tagNo).nextStamp
  rw [State.releaseHeld_nextStamp]
  exact hT _ hbusy

omit hD in
theorem State.takeQuery_moves {f : Frame} (hk : f.kind = 0x03) : Moves K s (s.takeQuery f) := by
  refine State.judged_moves (checkQuery_eq hk) fun hpass => ?_
  have hbusy := State.not_busy_of_passed (by rw [hk]; rfl) hpass
  refine ((State.releaseHeld_moves f.tagNo).trans (State.clearStats_moves (d := f.driveNo) _)).tail
    (.completes _ f.tagNo f.driveNo _ ?_ ?_ rfl)
  · rw [State.clearStats_nextStamp, State.releaseHeld_nextStamp]
    exact hT _ hbusy
  · rw [State.clearStats_tag]
    exact State.releaseHeld_free hbusy

omit hT in
theorem State.abortTag_moves (f : Frame) (t : TagNo) : Moves K s (s.abortTag f t) := by
  have hrefuse : ∀ e, Moves K s (s.refuse e f) := fun e => .of (.notice s e f.kind f.tag)
  unfold State.abortTag
  split
  · exact hrefuse _
  · next r _ h => exact (Moves.of (.quits s t r .aborted (hD _) h)).trans (State.runOnIfDue_moves (hD _))
  · next r _ _ h =>
    exact (State.orphanMotion_moves.tail (.finishes _ t r .aborted h)).trans (State.afterFree_moves (hD _))
  · next r _ _ h =>
    exact (State.orphanMotion_moves.tail (.finishes _ t r .aborted h)).trans (State.afterFree_moves (hD _))
  · next r _ _ h =>
    exact (State.clearReservation_moves.tail (.finishes _ t r .aborted
      ((State.tag_clearReservation s r.drive t).trans h))).trans (State.afterFree_moves (hD _))
  · next r p h =>
    simp only [State.markAbort, h]
    refine (Moves.of (.marks s t r p .pass false true h)).trans (State.onPassBody_moves fun q => ?_)
    cases hb : q.body with
    | formatting =>
      exact (Pass.gateOpen_of_formatting rfl).trans (Pass.gateOpen_of_formatting hb).symm
    | reading | writing => simp only [Pass.gateOpen, hb]
  all_goals exact hrefuse _

omit hD hT in
theorem State.releaseTag_moves (f : Frame) (t : TagNo) : Moves K s (s.releaseTag f t) := by
  have hrefuse : ∀ e, Moves K s (s.refuse e f) := fun e => .of (.notice s e f.kind f.tag)
  unfold State.releaseTag
  split
  · exact hrefuse _
  · exact hrefuse _
  · exact hrefuse _
  · next h => exact .of (.withdraws s t _ _ h)
  · next h => exact .of (.lets s t _ _ h)
  · exact hrefuse _
  · next h => exact .of (.releases s t _ _ h)

omit hD hT in
theorem State.resendTag_moves (f : Frame) (t : TagNo) : Moves K s (s.resendTag f t) := by
  have hrefuse : ∀ e, Moves K s (s.refuse e f) := fun e => .of (.notice s e f.kind f.tag)
  unfold State.resendTag
  split
  case h_6 => next h => exact .of (.resends s t _ _ h)
  all_goals exact hrefuse _

omit hD hT in
/-- A control message that passes checks 2 to 5 acts on its target (R18, R24, R25). -/
theorem State.judged_control_moves {f : Frame} {take : TagNo → State} (h : ∀ t, Moves K s (take t)) :
    Moves K s (s.judged f (checkHeader s f 0) take) := by
  rcases hc : checkHeader s f 0 with e | t
  · exact .of (.notice s e f.kind f.tag)
  · exact h t

omit hT in
theorem State.takeOpen_moves (f : Frame) : Moves K s (s.takeOpen f) := by
  unfold State.takeOpen
  split
  · unfold State.openAccepted
    split
    · next h => exact .of (.opens s h)
    · next h =>
      exact ((Moves.of (.reopens s h hD)).trans (State.runOnIfDue_moves (hD _))).trans
        (State.runOnIfDue_moves (hD _))
  · exact .of (.notice s _ _ _)

theorem State.handOn_moves (f : Frame) : Moves K s (s.handOn f) := by
  obtain ⟨kind, session, tag, body⟩ := f
  rcases kind_cases kind with h | h | h | h | h | h | h | h | h | h | h | h | h
  case inl =>
    rw [State.handOn_unknown h]
    exact .of (.notice s _ _ _)
  all_goals subst h
  · exact State.takeOpen_moves hD _
  · exact State.takeDefine_moves hD hT rfl
  · exact State.takeQuery_moves hT rfl
  · exact State.takeRead_moves hD hT rfl
  · exact State.takeWrite_moves hD hT rfl
  · exact State.takeVerify_moves hD hT rfl
  · exact State.takeFormat_moves hD hT rfl
  · exact State.takeSeek_moves hD hT rfl
  · exact State.takeRecal_moves hD hT rfl
  · exact State.judged_control_moves (State.abortTag_moves hD _)
  · exact State.judged_control_moves (State.releaseTag_moves _)
  · exact State.judged_control_moves (State.resendTag_moves _)

/-! ### The receiver -/

omit hD hT in
/-- The content a receiver within its bounds holds (R151). -/
theorem Receiver.length_le {x : Receiver} {content : List Byte} (h : x.inBounds = true)
    (hp : x.phase = .gather content ∨ x.phase = .escape content) : content.length ≤ 268 := by
  obtain ⟨phase, timer⟩ := x
  rcases hp with rfl | rfl
  · cases content with
    | nil => exact Nat.zero_le _
    | cons b rest =>
      simp only [Receiver.inBounds, Config.contentLimit, Bool.and_eq_true] at h
      exact of_decide_eq_true h.2
  · simp only [Receiver.inBounds, Config.contentLimit, Bool.and_eq_true] at h
    exact of_decide_eq_true h.2

omit hD hT in
theorem State.receive_moves {ph : RxPhase} (h : s.rx.inBounds = true →
    ∀ content, ph = .gather content ∨ ph = .escape content → content.length ≤ 268) :
    Moves K s (s.receive ph) :=
  .of (.receives s _ fun hs => State.receive_inBounds (s := s) (h hs))

omit hD hT in
theorem State.receive_empty_moves {ph : RxPhase} (h : ph = .idle ∨ ph = .gather []) :
    Moves K s (s.receive ph) := by
  refine State.receive_moves fun _ content hc => ?_
  rcases h with rfl | rfl <;> rcases hc with hc | hc <;> cases hc
  exact Nat.zero_le _

omit hD hT in
theorem State.linkFault_leads (e : Reason) {ph : RxPhase} (h : ph = .idle ∨ ph = .gather []) :
    s.Leads K (s.linkFault e ph) :=
  Moves.endHappening ((State.receive_empty_moves h).tail (.notice _ e 0x00 0xFF))

omit hD hT in
theorem State.gatherByte_leads (content : List Byte) (b : Byte) :
    s.Leads K (s.gatherByte content b) := by
  unfold State.gatherByte
  split
  · next hlt =>
    refine Moves.leads (State.receive_moves fun _ c hc => ?_) rfl
    rcases hc with hc | hc <;> cases hc
    rw [List.length_append]
    exact hlt
  · exact State.linkFault_leads _ (.inl rfl)

theorem State.judge_leads (content : List Byte) : s.Leads K (s.judge content) := by
  unfold State.judge
  split
  · exact State.linkFault_leads _ (.inr rfl)
  · split
    · exact State.linkFault_leads _ (.inr rfl)
    · exact Moves.endHappening ((State.receive_empty_moves (.inr rfl)).trans
        (State.handOn_moves (s := s.receive (.gather [])) hD hT _))

theorem State.takeChar_leads (b : Byte) (stopBit : Bool) : s.Leads K (s.takeChar b stopBit) := by
  have hfault : ∀ e ph, ph = .idle ∨ ph = .gather [] → s.Leads K (s.linkFault e ph) :=
    fun e _ => State.linkFault_leads e
  have hreceive : s.Leads K (s.receive (.gather [])) :=
    Moves.leads (State.receive_empty_moves (.inr rfl)) rfl
  unfold State.takeChar
  split
  · split
    · exact hreceive
    · exact .refl
  · next content hphase =>
    split_ifs
    · exact hfault _ _ (.inl rfl)
    · exact hreceive
    · exact State.judge_leads hD hT content
    · refine Moves.leads (State.receive_moves fun hs c hc => ?_) rfl
      rcases hc with hc | hc <;> cases hc
      exact Receiver.length_le hs (.inl hphase)
    · exact State.gatherByte_leads content b
  · next content _ =>
    split_ifs
    · exact hfault _ _ (.inl rfl)
    · exact State.gatherByte_leads content _
    · exact State.gatherByte_leads content _
    · exact hfault _ _ (.inr rfl)
    · exact hfault _ _ (.inl rfl)

omit hD hT in
theorem State.rxExpired_leads : s.Leads K s.rxExpired := by
  unfold State.rxExpired
  split
  · exact State.linkFault_leads _ (.inl rfl)
  · exact .refl

end Functions

/-! ### Commands -/

/-- What any command may touch: every drive, and with the next stamp the tags that are FREE or HELD. -/
def State.anyScope (s : State) : Scope := ⟨fun _ => True, fun t n => (s.tag t).busy = false ∧ n = s.nextStamp⟩

theorem State.unlessHeld_leads {K : Scope} {s t : State} {f : State → State}
    (h : s.resetHold = none → s.Leads K (f s)) (ht : (.next (s.unlessHeld f) : Host.Outcome State Fault Refusal)
      = .next t) : s.Leads K t := by
  cases ht
  by_cases hheld : s.resetHold = none
  · rw [State.unlessHeld_none hheld]
    exact h hheld
  · rw [State.unlessHeld_some hheld]
    exact .refl

/-- Every command that is work of the part is moves, and then the beginning of a frame unless it lists
nothing. -/
theorem exec_leads {c : Instr} {s t : State} (hc : c.isSignal = false) (h : exec c s = .next t) :
    s.Leads s.anyScope t := by
  have hD : ∀ d, s.anyScope.drives d := fun _ => trivial
  have hT : ∀ t, (s.tag t).busy = false → s.anyScope.accepts t s.nextStamp := fun t ht => ⟨ht, rfl⟩
  have hframe : ∀ {f : Frame} {take : State → Frame → State},
      Moves s.anyScope s (take s f) →
      (.next (s.frameHappening f take) : Host.Outcome State Fault Refusal) = .next t →
      s.Leads s.anyScope t := fun {f take} hm ht =>
    State.unlessHeld_leads (f := fun s => (take s f).endHappening) (fun _ => Moves.endHappening hm) ht
  have hlv : ∀ (lv : Levels) {q : State}, Moves s.anyScope (s.withLevels lv) q → Moves s.anyScope s q :=
    fun lv _ hq => (Moves.of (.levels s lv)).trans hq
  have hquiet : ∀ {f : Pass → PassBody}, (∀ p : Pass, ({ p with body := f p } : Pass).gateOpen = p.gateOpen) →
      s.Leads s.anyScope (s.onPassBody f) := fun hf => by
    refine Moves.leads (State.onPassBody_moves hf) ?_
    unfold State.onPassBody
    split <;> rfl
  cases c with
  | resetBegin | hardwareReset | holdAsserted | holdDeasserted | frameEnd => cases hc
  | rxByte lv data stopBit =>
    exact State.unlessHeld_leads (fun _ => .facing (State.takeChar_leads (s := s.withLevels lv) hD hT _ _)) h
  | timeout => exact State.unlessHeld_leads (fun _ => State.rxExpired_leads) h
  | openSession session tag body => exact hframe (State.takeOpen_moves hD _) h
  | define session tag body => exact hframe (State.takeDefine_moves hD hT rfl) h
  | query lv session tag body =>
    exact hframe (hlv lv (State.takeQuery_moves (s := s.withLevels lv) hT rfl)) h
  | read lv session tag body =>
    exact hframe (hlv lv (State.takeRead_moves (s := s.withLevels lv) hD hT rfl)) h
  | write lv session tag body =>
    exact hframe (hlv lv (State.takeWrite_moves (s := s.withLevels lv) hD hT rfl)) h
  | verify lv session tag body =>
    exact hframe (hlv lv (State.takeVerify_moves (s := s.withLevels lv) hD hT rfl)) h
  | format lv session tag body =>
    exact hframe (hlv lv (State.takeFormat_moves (s := s.withLevels lv) hD hT rfl)) h
  | seek lv session tag body =>
    exact hframe (hlv lv (State.takeSeek_moves (s := s.withLevels lv) hD hT rfl)) h
  | recal lv session tag body =>
    exact hframe (hlv lv (State.takeRecal_moves (s := s.withLevels lv) hD hT rfl)) h
  | abort lv session tag body =>
    exact hframe (hlv lv (State.judged_control_moves (State.abortTag_moves hD _))) h
  | release session tag body => exact hframe (State.judged_control_moves (State.releaseTag_moves _)) h
  | resend session tag body => exact hframe (State.judged_control_moves (State.resendTag_moves _)) h
  | unknownKind kind session tag body => exact hframe (State.handOn_moves hD hT _) h
  | indexPulse lv d interval =>
    exact State.unlessHeld_leads (fun _ => .facing (State.indexPulse_leads (hD d) interval)) h
  | sectorPulse lv d => exact State.unlessHeld_leads (fun _ => .facing (State.sectorPulse_leads (hD d))) h
  | spinUpTimerExpiry lv d =>
    exact State.unlessHeld_leads (fun _ => .facing (State.spinUpExpired_leads (hD d))) h
  | indexWatchdogExpiry lv d =>
    exact State.unlessHeld_leads (fun _ => .facing (State.watchdogExpired_leads (hD d))) h
  | runOnTimerExpiry d => exact State.unlessHeld_leads (fun _ => State.runOnExpired_leads (hD d)) h
  | syncMarkFound => exact State.unlessHeld_leads (fun _ => hquiet PassBody.syncFound_gateOpen) h
  | idComplete a b => exact State.unlessHeld_leads (fun _ => hquiet (Pass.idArrived_gateOpen _ _)) h
  | recordComplete data check =>
    exact State.unlessHeld_leads (fun _ => hquiet fun p => Pass.recordArrived_gateOpen _ _ _ p) h
  | writeComplete =>
    refine State.unlessHeld_leads (fun _ => Moves.leads State.writeDone_moves ?_) h
    unfold State.writeDone
    split
    · split
      · rw [State.onOwner_eq]
        rfl
      · rfl
    · rfl
  | formatSectorComplete =>
    refine State.unlessHeld_leads (fun _ => Moves.leads State.formatSectorDone_moves ?_) h
    unfold State.formatSectorDone
    split
    · split
      · rw [State.onOwner_eq]
        rfl
      · rfl
    · rfl
  | stepTimerExpiry lv d =>
    exact State.unlessHeld_leads (fun _ => .facing (State.stepExpired_leads (hD d))) h
  | settleTimerExpiry lv d =>
    exact State.unlessHeld_leads (fun _ => .facing (State.settleExpired_leads (hD d))) h

end Sys2Proof.Machine

/-! ## Invariants of every step

`Kept P` says that the moves, the beginning and the end of a frame, HOLD and the two resets each keep `P`;
then every step keeps it. -/

namespace Sys2Proof.Machine

/-! ### What the composed operations leave alone -/

/-- The second state differs from the first at most in the tags, the drives and the transmit list with
STALL. -/
structure State.DriveWork (s t : State) : Prop where
  work : s.WorkOnly t
  bus : t.bus = s.bus
  port : t.port = s.port

theorem State.DriveWork.refl (s : State) : s.DriveWork s := ⟨.refl s, rfl, rfl⟩

theorem State.DriveWork.trans {s t u : State} (h : s.DriveWork t) (k : t.DriveWork u) : s.DriveWork u :=
  ⟨h.work.trans k.work, k.bus.trans h.bus, k.port.trans h.port⟩

section Frames

variable (s : State) (d : Drive)

theorem State.setDrive_driveWork (u : DriveUnit) : s.DriveWork (s.setDrive d u) :=
  ⟨State.setDrive_workOnly s d u, rfl, rfl⟩

theorem State.setTag_driveWork (t : TagNo) (x : TagState) : s.DriveWork (s.setTag t x) :=
  ⟨State.setTag_workOnly s t x, rfl, rfl⟩

theorem State.finish_driveWork (t : TagNo) (r : Request) (st : Status) : s.DriveWork (s.finish t r st) :=
  ⟨State.finish_workOnly s t r st, rfl, rfl⟩

theorem State.setPhase_driveWork (t : TagNo) (ph : Phase) : s.DriveWork (s.setPhase t ph) := by
  unfold State.setPhase
  split
  · exact State.setTag_driveWork s t _
  · exact .refl s

theorem State.orderMotion_driveWork (t : TagNo) (k : MotionKind) (target : Nat) :
    s.DriveWork (s.orderMotion d t k target) :=
  (State.setDrive_driveWork s d _).trans (State.setPhase_driveWork _ t .position)

theorem State.activate_driveWork (t : TagNo) : s.DriveWork (s.activate d t) := by
  unfold State.activate
  split
  · split
    · exact State.finish_driveWork s t _ .ok
    · exact State.setTag_driveWork s t _
    · exact (State.setTag_driveWork s t _).trans (State.orderMotion_driveWork _ d t _ _)
  · exact .refl s

/-- A decision changes tags, drives and the transmit list alone (R31). -/
theorem State.decide1_driveWork : s.DriveWork (s.decide1 d) := by
  unfold State.decide1
  split
  · exact (((State.setDrive_driveWork s d _).trans (State.setDrive_driveWork _ d _)).trans
      ⟨State.mapTags_workOnly _ _, rfl, rfl⟩).trans (State.activate_driveWork _ d _)
  · exact .refl s

theorem State.failTag_driveWork (t : TagNo) (st : Status) : s.DriveWork (s.failTag t st) := by
  unfold State.failTag
  split
  · exact State.finish_driveWork s t _ _
  · unfold State.finishTag
    split
    · exact State.finish_driveWork s t _ _
    · exact State.finish_driveWork s t _ _
    · exact .refl s

theorem State.foldl_failTag_driveWork (st : Status) : ∀ (l : List TagNo) (s : State),
    s.DriveWork (l.foldl (fun s t => s.failTag t st) s)
  | [], s => .refl s
  | t :: l, s => (State.failTag_driveWork s t st).trans (State.foldl_failTag_driveWork st l _)

/-- The end of a drive's requests changes tags, its queue and the transmit list alone (R74). -/
theorem State.endRequests_driveWork (st : Status) : s.DriveWork (s.endRequests d st) :=
  (State.setDrive_driveWork s d _).trans (State.foldl_failTag_driveWork st _ _)

theorem State.endRequests_drive_other (st : Status) :
    (s.endRequests d st).drive d.other = s.drive d.other := by
  rw [State.endRequests, State.foldl_failTag_drive, State.drive_setQueue_other]

theorem State.freeTag_frame (t : TagNo) :
    s.freeTag t = { s with tags := (s.freeTag t).tags, buffers := (s.freeTag t).buffers } := by
  obtain ⟨-, -, -, h⟩ := State.freeTag_spec s t
  exact h

theorem State.dropPass_frame (b : Option BufNo) :
    s.dropPass b = { s.releaseBus with pass := none, buffers := (s.dropPass b).buffers } := by
  rw [State.dropPass, State.freeBuffer_eq]

/-- A grant writes the bus, the select and side lines and the phase of the tag (R97). -/
theorem State.grantPass_frame (t : TagNo) (r : Request) :
    s.grantPass d t r = { s with
      tags := (s.grantPass d t r).tags
      bus := ⟨some ⟨d, .pass⟩, if s.bus.reservation = some d then none else s.bus.reservation, some d⟩
      port := { s.port with sel := selectLines d, side := r.work.side == 1 } } := by
  simp only [State.grantPass, State.clearReservation_eq]
  rw [State.setPhase_eq]
  rfl

theorem State.orphanMotion_drive_other : (s.orphanMotion d).drive d.other = s.drive d.other :=
  State.drive_setHead_other s d _

end Frames

theorem State.tag_congr {s t : State} (h : t.tags = s.tags) (u : TagNo) : t.tag u = s.tag u := by
  rw [State.tag, State.tag, h]

theorem State.buffer_congr {s t : State} (h : t.buffers = s.buffers) (b : BufNo) :
    t.buffer b = s.buffer b := by
  rw [State.buffer, State.buffer, h]

section SessionEnd

variable (s : State)

/-- A session end up to its queues: tags, motions, pass and buffers (R161, stages 2 to 5 of Table 11-1). -/
def State.workEnded : State := ((s.freeAllTags.orphanMotion .d0).orphanMotion .d1).detachPass.settleBuffers

/-- A session end up to its bus: the queues are empty (R161, stage 6). -/
def State.queuesEnded : State := (s.workEnded.setQueue .d0 []).setQueue .d1 []

theorem State.endSession_eq : s.endSession = ({ s.queuesEnded with
    bus := { s.queuesEnded.bus with reservation := none } } : State).setList
      (s.queuesEnded.list.filter Entry.isEvent) := by
  simp only [State.endSession, State.queuesEnded, State.workEnded]

theorem State.freeAllTags_frame : s.freeAllTags = { s with tags := s.freeAllTags.tags } := rfl

theorem State.orphanMotion_frame (d : Drive) :
    s.orphanMotion d = { s with units := (s.orphanMotion d).units } := rfl

theorem State.settleBuffers_frame : s.settleBuffers = { s with buffers := s.settleBuffers.buffers } := rfl

theorem State.setQueue_frame (d : Drive) (q : List TagNo) :
    s.setQueue d q = { s with units := (s.setQueue d q).units } := rfl

theorem State.freeAllTags_tag (t : TagNo) :
    s.freeAllTags.tag t = if (s.tag t).isSending then s.tag t else .free := by
  rw [State.freeAllTags, State.tag_mapTags]
  cases s.tag t <;> rfl

theorem State.workEnded_frame : s.workEnded = { s with
    tags := s.freeAllTags.tags, units := s.workEnded.units, pass := s.pass.map Pass.detach
    buffers := s.workEnded.buffers } := by
  rw [State.workEnded, State.settleBuffers_frame, State.detachPass, State.orphanMotion_frame,
    State.orphanMotion_frame, State.freeAllTags_frame]

theorem State.queuesEnded_frame : s.queuesEnded = { s with
    tags := s.freeAllTags.tags, units := s.queuesEnded.units, pass := s.pass.map Pass.detach
    buffers := s.workEnded.buffers } := by
  have h : s.queuesEnded = { s.workEnded with units := s.queuesEnded.units } := by
    rw [State.queuesEnded, State.setQueue_frame, State.setQueue_frame]
  generalize s.queuesEnded.units = units at h ⊢
  rw [h, State.workEnded_frame]

/-- What a session end leaves alone (R161). -/
theorem State.endSession_frame : ∃ l, s.endSession = { s with
    tags := s.freeAllTags.tags, units := s.queuesEnded.units, pass := s.pass.map Pass.detach
    buffers := s.workEnded.buffers, bus := { s.bus with reservation := none }
    list := s.list.filter Entry.isEvent, stall := l } := by
  have h := s.queuesEnded_frame
  rw [State.endSession_eq]
  generalize s.queuesEnded = q at h ⊢
  generalize s.workEnded.buffers = b at h ⊢
  generalize q.units = u at h ⊢
  subst h
  exact ⟨_, rfl⟩

theorem State.workEnded_drive (d : Drive) : s.workEnded.drive d = { s.drive d with
    head := { (s.drive d).head with motion := motionLeft (s.drive d).head.motion } } := by
  have hunits : s.workEnded.units = ((s.freeAllTags.orphanMotion .d0).orphanMotion .d1).units := by
    rw [State.workEnded, State.settleBuffers_frame, State.detachPass]
  have hfree : ∀ e, s.freeAllTags.drive e = s.drive e := fun _ => rfl
  rw [State.drive_congr hunits]
  cases d with
  | d0 =>
    rw [← hfree, ← State.orphanMotion_drive]
    exact State.orphanMotion_drive_other _ .d1
  | d1 =>
    rw [State.orphanMotion_drive, ← hfree]
    exact congrArg (fun u : DriveUnit => { u with head := { u.head with motion := motionLeft u.head.motion } })
      (State.orphanMotion_drive_other _ .d0)

theorem State.queuesEnded_drive (d : Drive) :
    s.queuesEnded.drive d = { s.workEnded.drive d with queue := [] } := by
  rw [State.queuesEnded]
  generalize s.workEnded = w
  cases d with
  | d0 => exact (State.drive_setQueue_other _ .d1 []).trans (State.drive_setQueue w .d0 [])
  | d1 =>
    exact (State.drive_setQueue _ .d1 []).trans
      (congrArg (fun u : DriveUnit => { u with queue := [] }) (State.drive_setQueue_other w .d0 []))

theorem State.endSession_units : s.endSession.units = s.queuesEnded.units := by
  obtain ⟨l, h⟩ := s.endSession_frame
  rw [h]

theorem State.endSession_tags : s.endSession.tags = s.freeAllTags.tags := by
  obtain ⟨l, h⟩ := s.endSession_frame
  rw [h]

theorem State.endSession_pass : s.endSession.pass = s.pass.map Pass.detach := by
  obtain ⟨l, h⟩ := s.endSession_frame
  rw [h]

/-- What a session end does to a drive (R161). -/
theorem State.endSession_drive (d : Drive) :
    s.endSession.drive d = { s.drive d with
      queue := [], head := { (s.drive d).head with motion := motionLeft (s.drive d).head.motion } } := by
  rw [State.drive_congr s.endSession_units, State.queuesEnded_drive, State.workEnded_drive]

/-- What a session end does to a tag (R161). -/
theorem State.endSession_tag (t : TagNo) :
    s.endSession.tag t = if (s.tag t).isSending then s.tag t else .free := by
  rw [← State.freeAllTags_tag]
  exact State.tag_congr s.endSession_tags t

end SessionEnd


/-! ### Kept by every step -/

/-- The state the part leaves reset in, before RESTARTED can begin (R163). -/
def State.afterReset (s : State) (rate1 rate0 : Bool) : State :=
  { rx := ⟨.idle, none⟩, list := [.started (.restarted (s.resetHold.getD .line))], tx := none, stall := false
    session := 0, tags := Vector.replicate 16 .free, nextStamp := 0, units := ⟨.fresh, .fresh⟩
    bus := ⟨none, none, none⟩
    port := { s.port with sel := ⟨false, false⟩, wgate := false, comp := false, wdata := [] }
    pass := none, buffers := Vector.ofFn (freshBuffer s.draws), rate := .ofStraps rate1 rate0
    hold := s.hold, levels := s.levels, resetHold := none, draws := s.draws + 1, pending := s.pending }

theorem State.leaveReset_eq (s : State) (rate1 rate0 : Bool) :
    s.leaveReset rate1 rate0 = (s.afterReset rate1 rate0).beginFrame := rfl

/-- The transmitter is idle after a frame, and the tag of a REPLY is settled (R23, R141). -/
def State.frameOver (s : State) (f : TxFrame) : State :=
  match f.reply with
  | some t => ({ s with tx := none } : State).replySent t
  | none => { s with tx := none }

theorem State.frameEnded_some {s : State} {f : TxFrame} (h : s.tx = some f) :
    s.frameEnded = (s.frameOver f).beginFrame := by
  simp only [State.frameEnded, h]
  rfl

theorem State.frameEnded_none {s : State} (h : s.tx = none) : s.frameEnded = s := by
  simp only [State.frameEnded, h]

/-- FRAME_END ends the frame on TXD and lets the next one begin (R141). -/
theorem exec_frameEnd {s t : State} (h : exec .frameEnd s = .next t) :
    t = s ∨ ∃ f, s.resetHold = none ∧ s.tx = some f ∧ t = (s.frameOver f).beginFrame := by
  cases h
  by_cases hheld : s.resetHold = none
  · rw [State.unlessHeld_none hheld]
    rcases htx : s.tx with _ | f
    · exact .inl (State.frameEnded_none htx)
    · exact .inr ⟨f, hheld, rfl, State.frameEnded_some htx⟩
  · rw [State.unlessHeld_some hheld]
    exact .inl rfl

theorem State.beginFrame_cases (s : State) :
    s.beginFrame = s ∨ ∃ e rest, s.tx = none ∧ s.hold = false ∧ s.resetHold = none ∧ s.list = e :: rest
      ∧ s.beginFrame = s.send e rest := by
  unfold State.beginFrame
  split
  · next h =>
    obtain ⟨htx, hhold, hheld⟩ := h
    split
    · next e rest hlist => exact .inr ⟨e, rest, htx, hhold, hheld, hlist, rfl⟩
    · exact .inl rfl
  · exact .inl rfl

/-- A property that the moves, the frames, HOLD, the resets and the queue of commands keep. -/
structure Kept (P : State → Prop) : Prop where
  moves : ∀ K s t, Move K s t → P s → P t
  sends : ∀ s e rest, s.tx = none → s.hold = false → s.resetHold = none → s.list = e :: rest → P s →
    P (s.send e rest)
  ends : ∀ s f, s.resetHold = none → s.tx = some f → P s → P (s.frameOver f)
  hold : ∀ s b, P s → P { s with hold := b }
  resets : ∀ s cause, P s → P (s.beginReset cause)
  leaves : ∀ s rate1 rate0, P s → P (s.afterReset rate1 rate0)
  pending : ∀ s l, P s → P { s with pending := l }

namespace Kept

variable {P : State → Prop} (hP : Kept P) {s t : State}
include hP

theorem beginFrame (h : P s) : P s.beginFrame := by
  rcases State.beginFrame_cases s with he | ⟨e, rest, htx, hhold, hheld, hlist, he⟩ <;> rw [he]
  · exact h
  · exact hP.sends s e rest htx hhold hheld hlist h

theorem exec {c : Instr} (hs : P s) (h : exec c s = .next t) : P t := by
  by_cases hc : c.isSignal = true
  case neg =>
    obtain ⟨q, hq, hend⟩ := exec_leads (by simpa using hc) h
    have hPq : P q := hq.keeps (hP.moves _) hs
    rcases hend with rfl | ⟨rfl, -⟩
    · exact hP.beginFrame hPq
    · exact hPq
  case pos =>
    cases c with
    | resetBegin cause => cases h; exact hP.resets s cause hs
    | hardwareReset rate1 rate0 => cases h; exact hP.beginFrame (hP.leaves s rate1 rate0 hs)
    | holdAsserted => cases h; exact hP.hold s true hs
    | holdDeasserted => cases h; exact hP.beginFrame (hP.hold s false hs)
    | frameEnd =>
      rcases exec_frameEnd h with rfl | ⟨f, hheld, htx, rfl⟩
      · exact hs
      · exact hP.beginFrame (hP.ends s f hheld htx hs)
    | _ => cases hc

theorem step (hs : P s) (h : step s = .next t) : P t := by
  unfold Machine.step at h
  split at h
  · cases h
    exact hs
  · exact hP.exec (hP.pending s _ hs) h

end Kept

/-! ### The drive bus -/

/-- A STEPPING head has the hold that serves it (R84, R93). -/
theorem State.BusOk.holder_of_stepping {s : State} (h : s.BusOk) {d : Drive}
    (hstep : (s.drive d).head.isStepping = true) : s.bus.holder = some ⟨d, .step⟩ := by
  rcases hm : (s.drive d).head.motion with _ | m
  · simp [Head.isStepping, hm] at hstep
  · exact h.stepHolds d m hm (by simpa [Head.isStepping, hm] using hstep)

theorem State.stepHolds_of {s : State}
    (h : ∀ d, (s.drive d).head.isStepping = true → s.bus.holder = some ⟨d, .step⟩) (d : Drive) (m : Motion)
    (hm : (s.drive d).head.motion = some m) (hstage : m.stage = .stepping) :
    s.bus.holder = some ⟨d, .step⟩ := h d (Head.isStepping_of_motion hm hstage)

/-- What the invariant of the bus reads: the holder, the pass, four lines and the STEPPING heads. -/
theorem State.BusOk.congr {s t : State} (h : s.BusOk) (hholder : t.bus.holder = s.bus.holder)
    (hpass : t.pass = s.pass) (hsel : t.port.sel = s.port.sel) (hgate : t.port.wgate = s.port.wgate)
    (hcomp : t.port.comp = s.port.comp) (hdata : t.port.wdata = s.port.wdata)
    (hhead : ∀ d, (t.drive d).head.isStepping = true → (s.drive d).head.isStepping = true) : t.BusOk where
  selected := fun d => by rw [hsel, hholder, h.selected]
  passHolds := fun p hp => by rw [hholder, h.passHolds p (hpass ▸ hp)]
  stepHolds := State.stepHolds_of fun d hd => by rw [hholder, h.holder_of_stepping (hhead d hd)]
  gate := by rw [hgate, hpass, h.gate]
  comp := by rw [hcomp, hgate]; exact h.comp
  data := by rw [hgate, hdata]; exact h.data

/-- A free bus: no lines selected, no pass, no STEPPING head, the gate closed (R94). -/
theorem State.BusOk.of_released {s : State} (hholder : s.bus.holder = none) (hpass : s.pass = none)
    (hsel : s.port.sel = ⟨false, false⟩) (hgate : s.port.wgate = false) (hcomp : s.port.comp = false)
    (hdata : s.port.wdata = []) (hhead : ∀ d, (s.drive d).head.isStepping = false) : s.BusOk where
  selected := fun d => by rw [hsel, hholder]; cases d <;> rfl
  passHolds := fun p hp => by rw [hpass] at hp; cases hp
  stepHolds := State.stepHolds_of fun d hd => by rw [hhead d] at hd; cases hd
  gate := by rw [hgate, hpass]; rfl
  comp := by rw [hcomp]; nofun
  data := fun _ => hdata

theorem State.BusOk.no_pass {s : State} (h : s.BusOk) (hholder : s.bus.holder = none) : s.pass = none := by
  rcases hp : s.pass with _ | p
  · rfl
  · have := h.passHolds p hp
    rw [hholder] at this
    cases this

theorem State.BusOk.not_stepping {s : State} (h : s.BusOk) {d : Drive}
    (hholder : s.bus.holder ≠ some ⟨d, .step⟩) : (s.drive d).head.isStepping = false := by
  by_contra hstep
  exact hholder (h.holder_of_stepping (by simpa using hstep))

theorem selectLines_get (d e : Drive) : (selectLines d).get e = (d == e) := by
  cases d <;> cases e <;> rfl

theorem State.isStepping_setHead {s : State} {d e : Drive} {x : Head} :
    ((s.setHead d x).drive e).head.isStepping = if e = d then x.isStepping else (s.drive e).head.isStepping := by
  split
  · next h => rw [h, State.drive_setHead]
  · next h =>
    have : (s.setHead d x).drive e = s.drive e := Pair.get_set_ne _ h _
    rw [this]

theorem State.isStepping_orderMotion {s : State} {d e : Drive} {t : TagNo} {k : MotionKind} {target : Nat}
    (h : ((s.orderMotion d t k target).drive e).head.isStepping = true) :
    (s.drive e).head.isStepping = true := by
  rw [State.orderMotion, State.setPhase_eq] at h
  have h' := State.isStepping_setHead.symm.trans h
  split at h'
  · cases h'
  · exact h'

theorem State.isStepping_activate {s : State} {d e : Drive} {t : TagNo}
    (h : ((s.activate d t).drive e).head.isStepping = true) : (s.drive e).head.isStepping = true := by
  unfold State.activate at h
  split at h
  · split at h
    · exact h
    · exact h
    · exact (State.isStepping_orderMotion h :)
  · exact h

/-- A decision makes no head STEPPING. -/
theorem State.isStepping_of_decide1 {s : State} {d e : Drive}
    (h : ((s.decide1 d).drive e).head.isStepping = true) : (s.drive e).head.isStepping = true := by
  unfold State.decide1 at h
  split at h
  · have hbase := State.isStepping_activate h
    rcases Drive.eq_or_other d e with rfl | rfl <;>
      simpa [State.raisePassed, State.leaveQueue] using hbase
  · exact h

theorem motionLeft_isStepping {h : Head} (hs : ({ h with motion := motionLeft h.motion } : Head).isStepping = true) :
    h.isStepping = true := by
  rcases hm : h.motion with _ | m
  · simp [Head.isStepping, hm, motionLeft] at hs
  · by_cases hw : m.stage = .waiting
    · simp [Head.isStepping, hm, motionLeft, hw] at hs
    · simpa [Head.isStepping, hm, motionLeft, hw] using hs

theorem Pass.gateOpen_detach (p : Pass) : p.detach.gateOpen = p.gateOpen := by
  cases hb : p.body with
  | formatting fill current completed stop =>
    have hd : p.detach.body = .formatting fill current completed true := by rw [Pass.detach, hb]
    rw [Pass.gateOpen_of_formatting hd, Pass.gateOpen_of_formatting hb]
  | reading | writing => simp only [Pass.gateOpen, Pass.detach, hb]

theorem State.BusOk.setPass {s : State} (h : s.BusOk) {p q : Pass} (hp : s.pass = some p)
    (hdrive : q.drive = p.drive) (hgate : q.gateOpen = p.gateOpen) :
    ({ s with pass := some q } : State).BusOk where
  selected := h.selected
  passHolds := fun x hx => by
    cases hx
    rw [hdrive]
    exact h.passHolds p hp
  stepHolds := h.stepHolds
  gate := by
    show s.port.wgate = q.gateOpen
    rw [hgate, h.gate, hp]
    rfl
  comp := h.comp
  data := h.data

/-- A write pass is due with the buffer it writes from (R106). -/
theorem Request.duePass_writing {r : Request} {t : TagNo} {p : Pass} (h : r.duePass t = some p) {n : Nat}
    {st : GateStage} (hbody : p.body = .writing n st) : ∃ b, p.buffer = some b := by
  obtain ⟨w, d, session, stamp, age⟩ := r
  cases w
  case write => cases h; exact ⟨_, rfl⟩
  all_goals cases h <;> cases hbody

/-- A format revolution is due before its first sector (R115). -/
theorem Request.duePass_formatting {r : Request} {t : TagNo} {p : Pass} (h : r.duePass t = some p)
    {fill : Byte} {current : Option FormatSector} {completed : Nat} {stop : Bool}
    (hbody : p.body = .formatting fill current completed stop) : current = none := by
  obtain ⟨w, d, session, stamp, age⟩ := r
  cases w
  case write a v b l due => cases due <;> cases h <;> cases hbody
  case format => cases h; cases hbody; rfl
  all_goals cases h <;> cases hbody

/-- A pass takes a free bus with its lines, and opens the gate or not (R97, R106, R111). -/
theorem State.BusOk.grants {s : State} (h : s.BusOk) (hholder : s.bus.holder = none) {d : Drive}
    {t : TagNo} {r : Request} {p : Pass} (hd : r.drive = d) (hp : r.duePass t = some p) :
    ((s.grantPass d t r).beginPass p).BusOk := by
  have hnone : s.pass = none := h.no_pass hholder
  have hclosed : s.port.wgate = false := by rw [h.gate, hnone]; rfl
  have hdrive : p.drive = d := (Request.duePass_drive hp).trans hd
  have hframe := State.grantPass_frame s d t r
  have hgbus := congrArg State.bus hframe
  have hport := congrArg State.port hframe
  have hunits : (s.grantPass d t r).units = s.units := by rw [hframe]
  have hbus : ((s.grantPass d t r).beginPass p).bus.holder = some ⟨d, .pass⟩ := by
    rw [State.beginPass_eq, hgbus]
  have hpass : ((s.grantPass d t r).beginPass p).pass = some p := by rw [State.beginPass_eq]
  have hhead : ∀ e, ((s.grantPass d t r).beginPass p).drive e = s.drive e := fun e => by
    rw [State.beginPass_eq]
    exact State.drive_congr hunits e
  have hlines : ((s.grantPass d t r).beginPass p).port.wgate = p.gateOpen
      ∧ (((s.grantPass d t r).beginPass p).port.comp = true →
        ((s.grantPass d t r).beginPass p).port.wgate = true)
      ∧ (((s.grantPass d t r).beginPass p).port.wgate = false →
        ((s.grantPass d t r).beginPass p).port.wdata = []) := by
    cases hb : p.body with
    | writing n st =>
      obtain rfl := Request.duePass_gateOpen hp hb
      obtain ⟨b, hbuffer⟩ := Request.duePass_writing hp hb
      rw [State.beginPass_writing hb hbuffer]
      exact ⟨by simp only [State.openGate_port, Pass.gateOpen, hb], fun _ => rfl, nofun⟩
    | reading check n st =>
      rw [State.beginPass_not_writing (by rw [hb]; nofun), hport]
      refine ⟨hclosed.trans ?_, h.comp, h.data⟩
      simp only [Pass.gateOpen, hb]
    | formatting fill current completed stop =>
      rw [State.beginPass_not_writing (by rw [hb]; nofun), hport]
      refine ⟨hclosed.trans ?_, h.comp, h.data⟩
      rw [Pass.gateOpen_of_formatting hb, Request.duePass_formatting hp hb]
      rfl
  exact {
    selected := fun e => by
      rw [State.beginPass_sel, hport, hbus]
      exact selectLines_get d e
    passHolds := fun x hx => by
      rw [hpass] at hx
      cases hx
      rw [hbus, hdrive]
    stepHolds := State.stepHolds_of fun e he => by
      rw [hhead, h.not_stepping (by rw [hholder]; nofun)] at he
      cases he
    gate := by rw [hpass]; exact hlines.1
    comp := hlines.2.1
    data := hlines.2.2 }

theorem busOk_moves (K : Scope) (s t : State) (hm : Move K s t) (h : s.BusOk) : t.BusOk := by
  cases hm with
  | levels | receives | completes | finishes | marks | lets | resends | binds | fills | reserves | lines =>
    exact h.congr rfl rfl rfl rfl rfl rfl fun _ => id
  | stats d | spindle d =>
    refine h.congr rfl rfl rfl rfl rfl rfl fun e he => ?_
    rcases Drive.eq_or_other d e with rfl | rfl <;> simpa using he
  | notice e kind tag =>
    rw [(State.addNotice_spec s e kind tag).rest]
    exact h.congr rfl rfl rfl rfl rfl rfl fun _ => id
  | event d ev =>
    rw [State.raiseEvent_eq]
    exact h.congr rfl rfl rfl rfl rfl rfl fun _ => id
  | opens => exact h.congr rfl rfl rfl rfl rfl rfl fun _ => id
  | reopens =>
    have hhead := State.endSession_drive ({ s with session := nextSession s.session } : State)
    have hpass := State.endSession_pass ({ s with session := nextSession s.session } : State)
    obtain ⟨l, hframe⟩ := State.endSession_frame ({ s with session := nextSession s.session } : State)
    have hbus := congrArg State.bus hframe
    have hport := congrArg State.port hframe
    clear hframe
    revert hhead hpass hbus hport
    generalize State.endSession _ = u
    intro hhead hpass hbus hport
    have hstep : ∀ e, (u.drive e).head.isStepping = true → (s.drive e).head.isStepping = true :=
      fun e he => motionLeft_isStepping ((congrArg (fun u : DriveUnit => u.head.isStepping)
        (hhead e)).symm.trans he)
    have hu : u.BusOk := by
      rcases hp : s.pass with _ | p
      · exact h.congr (by rw [hbus]) (by rw [hpass]; exact hp ▸ rfl) (by rw [hport]) (by rw [hport])
          (by rw [hport]) (by rw [hport]) hstep
      · exact (h.setPass hp (q := p.detach) rfl (Pass.gateOpen_detach p)).congr (by rw [hbus])
          (by rw [hpass]; exact hp ▸ rfl) (by rw [hport]) (by rw [hport]) (by rw [hport])
          (by rw [hport]) hstep
    exact hu.congr rfl rfl rfl rfl rfl rfl fun _ => id
  | head d x hx =>
    exact {
      selected := h.selected
      passHolds := h.passHolds
      stepHolds := State.stepHolds_of fun e he => by
        rw [State.isStepping_setHead] at he
        split at he
        · next hed =>
          subst hed
          rcases hx he with hold | hholder
          · exact h.holder_of_stepping hold
          · exact hholder
        · exact h.holder_of_stepping he
      gate := h.gate
      comp := h.comp
      data := h.data }
  | redefines d g =>
    refine h.congr rfl rfl rfl rfl rfl rfl fun e he => ?_
    rcases Drive.eq_or_other d e with rfl | rfl
    · rw [State.redefine, State.drive_setDrive] at he
      cases he
    · simpa [State.redefine] using he
  | decides d =>
    obtain ⟨hwork, hbus, hport⟩ := State.decide1_driveWork s d
    exact h.congr (by rw [hbus]) hwork.pass (by rw [hport]) (by rw [hport]) (by rw [hport])
      (by rw [hport]) fun e => State.isStepping_of_decide1
  | overtakes d new act newTag actTag n passed m hK hactive hnew hact =>
    have hrequest : (s.tag actTag).request? = some act := by rw [hact]; rfl
    have hd := State.overtake_drive (d := d) (new := new) (newTag := newTag) (passed := passed) hrequest
    have ho := State.overtake_drive_other (s := s) (d := d) (new := new) (act := act) (newTag := newTag)
      (actTag := actTag) (passed := passed)
    refine h.congr ?_ ?_ ?_ ?_ ?_ ?_ fun e he => ?_
    case refine_7 =>
      rcases Drive.eq_or_other d e with rfl | rfl
      · rw [hd] at he
        exact he
      · rw [ho] at he
        exact he
    all_goals rw [State.overtake_frame]
  | joins d t w =>
    refine h.congr rfl rfl rfl rfl rfl rfl fun e he => ?_
    have hd : ({ s with nextStamp := s.nextStamp + 1 } : State).drive e = s.drive e := rfl
    rw [← hd]
    rcases Drive.eq_or_other d e with rfl | rfl <;> simpa [State.joinQueue] using he
  | quits t r st =>
    refine h.congr rfl rfl rfl rfl rfl rfl fun e he => ?_
    rcases Drive.eq_or_other r.drive e with rfl | rfl <;> simpa [State.leaveQueue, State.finish_drive] using he
  | fails d st =>
    obtain ⟨hwork, hbus, hport⟩ := State.endRequests_driveWork s d st
    refine h.congr (by rw [hbus]) hwork.pass (by rw [hport]) (by rw [hport]) (by rw [hport])
      (by rw [hport]) fun e he => ?_
    rcases Drive.eq_or_other d e with rfl | rfl
    · rwa [State.endRequests_drive] at he
    · rwa [State.endRequests_drive_other] at he
  | phase t ph =>
    rw [State.setPhase_eq]
    exact h.congr rfl rfl rfl rfl rfl rfl fun _ => id
  | request t f =>
    rw [State.onActive_eq]
    exact h.congr rfl rfl rfl rfl rfl rfl fun _ => id
  | releases | withdraws =>
    rw [State.freeTag_frame]
    exact h.congr rfl rfl rfl rfl rfl rfl fun _ => id
  | holds d hholder =>
    have hnone := h.no_pass hholder
    exact {
      selected := fun e => selectLines_get d e
      passHolds := fun p hp => by
        have : s.pass = some p := hp
        rw [hnone] at this
        cases this
      stepHolds := State.stepHolds_of fun e he => by
        have he' : (s.drive e).head.isStepping = true := he
        rw [h.not_stepping (by rw [hholder]; nofun)] at he'
        cases he'
      gate := h.gate
      comp := h.comp
      data := h.data }
  | lands d x hstep hx =>
    have hholder := h.holder_of_stepping hstep
    refine State.BusOk.of_released rfl ?_ rfl rfl rfl rfl fun e => ?_
    · rcases hp : s.pass with _ | p
      · exact hp
      · have := h.passHolds p hp
        rw [hholder] at this
        cases this
    · rw [State.isStepping_setHead]
      split
      · exact hx
      · next hed =>
        refine h.not_stepping (d := e) ?_
        rw [hholder]
        intro heq
        cases heq
        exact hed rfl
  | grants d t r p hholder ht hd hp => exact h.grants hholder hd hp
  | refuses d t r hholder =>
    have hpass : (s.grantPass d t r).pass = s.pass := by rw [State.grantPass_frame]
    have hunits : (s.grantPass d t r).units = s.units := by rw [State.grantPass_frame]
    refine State.BusOk.of_released rfl (hpass.trans (h.no_pass hholder)) rfl rfl rfl rfl fun e => ?_
    have hd : (s.grantPass d t r).releaseBus.drive e = s.drive e := State.drive_congr hunits e
    rw [hd]
    exact h.not_stepping (by rw [hholder]; nofun)
  | passBody p body hp hgate => exact h.setPass hp rfl hgate
  | closes p body hp hgate =>
    exact {
      selected := h.selected
      passHolds := fun x hx => by
        cases hx
        exact h.passHolds p hp
      stepHolds := h.stepHolds
      gate := hgate.symm
      comp := nofun
      data := fun _ => rfl }
  | formats p fill completed n hp =>
    exact {
      selected := h.selected
      passHolds := fun x hx => by
        cases hx
        exact h.passHolds p hp
      stepHolds := h.stepHolds
      gate := rfl
      comp := fun _ => rfl
      data := nofun }
  | passEnds p b hp =>
    rw [State.dropPass_frame]
    refine State.BusOk.of_released rfl rfl rfl rfl rfl rfl fun e => h.not_stepping ?_
    rw [h.passHolds p hp]
    nofun

theorem State.send_frame (s : State) (e : Entry) (rest : List Entry) :
    s.send e rest = { s with
      tx := (s.send e rest).tx, list := (s.send e rest).list, stall := (s.send e rest).stall,
      tags := (s.send e rest).tags } := by
  rw [State.send, State.startSending_eq]
  rfl

theorem State.replySent_frame (s : State) (t : TagNo) :
    s.replySent t = { s with tags := (s.replySent t).tags, buffers := (s.replySent t).buffers } := by
  unfold State.replySent
  split
  · split
    · exact State.freeTag_frame s t
    · rfl
  · rfl

theorem State.frameOver_frame (s : State) (f : TxFrame) :
    s.frameOver f = { s with
      tx := none, tags := (s.frameOver f).tags, buffers := (s.frameOver f).buffers } := by
  unfold State.frameOver
  split
  · exact State.replySent_frame _ _
  · rfl

theorem busOk_kept : Kept State.BusOk where
  moves := busOk_moves
  sends := fun s e rest _ _ _ _ h => by
    rw [State.send_frame]
    exact h.congr rfl rfl rfl rfl rfl rfl fun _ => id
  ends := fun s f _ _ h => by
    rw [State.frameOver_frame]
    exact h.congr rfl rfl rfl rfl rfl rfl fun _ => id
  hold := fun s b h => h.congr rfl rfl rfl rfl rfl rfl fun _ => id
  resets := fun s cause _ => State.BusOk.of_released rfl rfl rfl rfl rfl rfl fun d => by cases d <;> rfl
  leaves := fun s _ _ _ => State.BusOk.of_released rfl rfl rfl rfl rfl rfl fun d => by cases d <;> rfl
  pending := fun s l h => h.congr rfl rfl rfl rfl rfl rfl fun _ => id

/-- Settles O54: each move keeps the select lines at the holder and the gate at the pass that writes. -/
theorem busIsKept : Obligations.BusIsKept := fun _ _ h hstep => busOk_kept.step h hstep

end Sys2Proof.Machine

/-! ## What no work of the part touches

The frame on TXD, HOLD, the hold in reset and the queue of waiting commands are moved by the signal commands
alone (R140, R141, R163, log entry 5), and the receiver keeps its bounds (R151, R155). -/

namespace Sys2Proof.Machine

/-- The second state has the frame, HOLD, the reset and the waiting commands of the first, and a receiver
within its bounds if the first has. -/
structure State.Aside (s t : State) : Prop where
  rx : s.rx.inBounds = true → t.rx.inBounds = true
  tx : t.tx = s.tx
  hold : t.hold = s.hold
  resetHold : t.resetHold = s.resetHold
  pending : t.pending = s.pending

theorem State.Aside.refl (s : State) : s.Aside s := ⟨id, rfl, rfl, rfl, rfl⟩

theorem State.Aside.trans {s t u : State} (h : s.Aside t) (k : t.Aside u) : s.Aside u :=
  ⟨k.rx ∘ h.rx, k.tx.trans h.tx, k.hold.trans h.hold, k.resetHold.trans h.resetHold,
    k.pending.trans h.pending⟩

theorem State.WorkOnly.aside {s t : State} (h : s.WorkOnly t) : s.Aside t :=
  ⟨fun hs => h.rx ▸ hs, h.tx, h.hold, h.resetHold, h.pending⟩

theorem Move.aside {K : Scope} {s t : State} (hm : Move K s t) : s.Aside t := by
  cases hm with
  | receives x h => exact ⟨h, rfl, rfl, rfl, rfl⟩
  | notice e kind tag =>
    rw [(State.addNotice_spec s e kind tag).rest]
    exact ⟨id, rfl, rfl, rfl, rfl⟩
  | event d ev => exact (State.raiseEvent_workOnly s d ev).aside
  | reopens =>
    obtain ⟨l, h⟩ := State.endSession_frame ({ s with session := nextSession s.session } : State)
    rw [h]
    exact ⟨id, rfl, rfl, rfl, rfl⟩
  | decides d => exact (State.decide1_workOnly s d).aside
  | overtakes =>
    rw [State.overtake_frame]
    exact ⟨id, rfl, rfl, rfl, rfl⟩
  | fails d st => exact (State.endRequests_driveWork s d st).work.aside
  | phase t ph => exact (State.setPhase_workOnly s t ph).aside
  | request t f =>
    rw [State.onActive_eq]
    exact ⟨id, rfl, rfl, rfl, rfl⟩
  | releases | withdraws =>
    rw [State.freeTag_frame]
    exact ⟨id, rfl, rfl, rfl, rfl⟩
  | grants =>
    rw [State.beginPass_eq, State.grantPass_frame]
    exact ⟨id, rfl, rfl, rfl, rfl⟩
  | refuses =>
    rw [State.grantPass_frame]
    exact ⟨id, rfl, rfl, rfl, rfl⟩
  | passEnds =>
    rw [State.dropPass_frame]
    exact ⟨id, rfl, rfl, rfl, rfl⟩
  | _ => exact ⟨id, rfl, rfl, rfl, rfl⟩

theorem Moves.aside {K : Scope} {s t : State} (h : Moves K s t) : s.Aside t :=
  h.keeps (P := s.Aside) (fun _ _ hm hs => hs.trans hm.aside) (.refl s)

/-! ### The beginning and the end of a frame -/

/-- No frame begins while one is on TXD, while HOLD is asserted, while the part is held in reset, or with
nothing listed (R140). -/
theorem State.beginFrame_not_ready {s : State}
    (h : s.tx ≠ none ∨ s.hold = true ∨ s.resetHold ≠ none ∨ s.list = []) : s.beginFrame = s := by
  rcases s.beginFrame_cases with he | ⟨e, rest, htx, hhold, hheld, hlist, -⟩
  · exact he
  · rw [hhold, hlist] at h
    rcases h with h | h | h | h
    · exact absurd htx h
    · cases h
    · exact absurd hheld h
    · cases h

theorem State.beginFrame_pending (s : State) : s.beginFrame.pending = s.pending := by
  rw [State.beginFrame_eq]

theorem State.Leads.aside {K : Scope} {s t : State} (h : s.Leads K t) :
    t.pending = s.pending ∧ (s.tx ≠ none ∨ s.hold = true → t.tx = s.tx) := by
  obtain ⟨q, hq, hend⟩ := h
  have haside := Moves.aside hq
  have hquiet : s.tx ≠ none ∨ s.hold = true → q.beginFrame = q := fun h =>
    State.beginFrame_not_ready (h.imp (haside.tx ▸ ·) fun h => .inl (haside.hold.trans h))
  rcases hend with rfl | ⟨rfl, -⟩
  · refine ⟨q.beginFrame_pending.trans haside.pending, fun h => ?_⟩
    rw [hquiet h, haside.tx]
  · exact ⟨haside.pending, fun _ => haside.tx⟩

/-- Settles O2: the queue is the model's own, and `exec` never reads it. -/
theorem commandsKeepTheQueue : Obligations.CommandsKeepTheQueue := by
  intro c s t h
  by_cases hc : c.isSignal = true
  case neg => exact (exec_leads (by simpa using hc) h).aside.1
  case pos =>
    cases c with
    | resetBegin | holdAsserted => cases h; rfl
    | hardwareReset | holdDeasserted => cases h; exact State.beginFrame_pending _
    | frameEnd =>
      rcases exec_frameEnd h with rfl | ⟨f, -, -, rfl⟩
      · rfl
      · rw [State.beginFrame_pending, State.frameOver_frame]
    | _ => cases hc

theorem receiver_kept : Kept fun s => s.rx.inBounds = true where
  moves := fun _ _ _ hm => hm.aside.rx
  sends := fun s e rest _ _ _ _ h => by
    rw [State.send_frame]
    exact h
  ends := fun s f _ _ h => by
    rw [State.frameOver_frame]
    exact h
  hold := fun _ _ => id
  resets := fun _ _ _ => rfl
  leaves := fun _ _ _ _ => rfl
  pending := fun _ _ => id

/-- Settles O14: only the receiver's own moves change it, and each of them respects the limit. -/
theorem receiverIsKept : Obligations.ReceiverIsKept := fun _ _ h hstep => receiver_kept.step h hstep

/-- Settles O18: HOLD is one of the conditions of a beginning, and no command but HOLD_DEASSERTED clears
it. -/
theorem holdStopsBeginning : Obligations.HoldStopsBeginning := by
  refine ⟨fun _ => rfl, fun c s t hhold hne h => ?_⟩
  by_cases hc : c.isSignal = true
  case neg => exact .inl ((exec_leads (by simpa using hc) h).aside.2 (.inr hhold))
  case pos =>
    cases c with
    | resetBegin => cases h; exact .inr rfl
    | holdAsserted => cases h; exact .inl rfl
    | holdDeasserted => exact absurd rfl hne
    | hardwareReset rate1 rate0 =>
      cases h
      have hidle : (s.afterReset rate1 rate0).beginFrame = s.afterReset rate1 rate0 :=
        State.beginFrame_not_ready (.inr (.inl hhold))
      exact .inr (congrArg State.tx hidle)
    | frameEnd =>
      rcases exec_frameEnd h with rfl | ⟨f, -, -, rfl⟩
      · exact .inl rfl
      have hframe := s.frameOver_frame f
      have hover : (s.frameOver f).hold = true := by
        rw [hframe]
        exact hhold
      rw [State.beginFrame_not_ready (.inr (.inl hover)), hframe]
      exact .inr rfl
    | _ => cases hc

/-- Settles O20: a beginning needs an idle transmitter, and only FRAME_END and a reset leave it idle. -/
theorem frameOnLineIsFixed : Obligations.FrameOnLineIsFixed := by
  intro c s t f htx hend hbegin hreset h
  have hbusy : ∀ u : State, u.tx = some f → u.beginFrame = u := fun u hu =>
    State.beginFrame_not_ready (.inl (by rw [hu]; nofun))
  by_cases hc : c.isSignal = true
  case neg =>
    rw [(exec_leads (by simpa using hc) h).aside.2 (.inl (by rw [htx]; nofun)), htx]
  case pos =>
    cases c with
    | resetBegin cause => exact absurd rfl (hbegin cause)
    | hardwareReset rate1 rate0 => exact absurd rfl (hreset rate1 rate0)
    | frameEnd => exact absurd rfl hend
    | holdAsserted => cases h; exact htx
    | holdDeasserted =>
      cases h
      exact (congrArg State.tx (hbusy ({ s with hold := false } : State) htx)).trans htx
    | _ => cases hc

end Sys2Proof.Machine

/-! ## Decisions

The choice of Table 2-2, the waits of Table 2-3, and what one decision does (R31 to R41). -/

namespace Sys2Proof.Machine

/-! ### Waits -/

/-- From a sector the following pulses are its successors, up to the last sector. -/
theorem positionAfter_sector {sectors n : Nat} : ∀ {m : Nat}, n + m < sectors →
    positionAfter sectors (.sector n) m = .sector (n + m)
  | 0, _ => rfl
  | m + 1, h => by
    have hm : n + m + 1 < sectors := h
    rw [positionAfter, positionAfter_sector (Nat.lt_of_succ_lt hm), pulseAfter, if_pos hm]
    rfl

/-- The pulses after the first one are those counted from the position it brings. -/
theorem positionAfter_succ {sectors : Nat} (pos : Position) : ∀ m : Nat,
    positionAfter sectors pos (m + 1) = positionAfter sectors (pulseAfter sectors pos).position m
  | 0 => rfl
  | m + 1 => by
    rw [positionAfter, positionAfter_succ pos m]
    rfl

theorem positionAfter_add {sectors : Nat} (pos : Position) (m : Nat) : ∀ n : Nat,
    positionAfter sectors pos (m + n) = positionAfter sectors (positionAfter sectors pos m) n
  | 0 => rfl
  | n + 1 => by
    rw [← Nat.add_assoc, positionAfter, positionAfter_add pos m n]
    rfl

section Revolution

variable {sectors : Nat}

/-- From INDEX the m-th pulse of the revolution starts sector m - 1. -/
theorem positionAfter_index {m : Nat} (hm : 1 ≤ m) (h : m ≤ sectors) :
    positionAfter sectors .index m = .sector (m - 1) := by
  obtain ⟨m, rfl⟩ := Nat.exists_eq_add_of_le' hm
  rw [positionAfter_succ]
  exact (positionAfter_sector (n := 0) (by omega)).trans (by rw [Nat.zero_add]; rfl)

/-- From a sector the index comes after the sectors that are left. -/
theorem positionAfter_sector_index {n : Nat} (h : n < sectors) :
    positionAfter sectors (.sector n) (sectors - n) = .index := by
  obtain ⟨m, hm⟩ : ∃ m, sectors - n = m + 1 := ⟨sectors - n - 1, by omega⟩
  rw [hm, positionAfter, positionAfter_sector (by omega), pulseAfter, if_neg (by omega)]
  rfl

theorem positionAfter_index_index (h : 0 < sectors) :
    positionAfter sectors .index (sectors + 1) = .index := by
  rw [positionAfter_succ]
  exact positionAfter_sector_index h

/-- The position m pulses after a sector, before its own return. -/
theorem positionAfter_sector_eq {n m : Nat} (h : n < sectors) (hm : m ≤ sectors) :
    positionAfter sectors (.sector n) m =
      if n + m < sectors then .sector (n + m) else if n + m = sectors then .index
      else .sector (n + m - sectors - 1) := by
  split_ifs with h1 h2
  · exact positionAfter_sector h1
  · rw [show m = sectors - n by omega]
    exact positionAfter_sector_index h
  · have hsum : m = (sectors - n) + (n + m - sectors) := by omega
    rw [hsum, positionAfter_add, positionAfter_sector_index h, positionAfter_index (by omega) (by omega)]
    congr 1
    omega

end Revolution

/-- Settles O37: within a revolution each position comes once, at the count of Table 2-3. -/
theorem waitCountsPulses : Obligations.WaitCountsPulses := by
  intro sectors pos start hpos hon hstart
  cases pos with
  | unknown => cases hon
  | index =>
    have hearlier : ∀ {m}, 1 ≤ m → m ≤ sectors → positionAfter sectors .index m = .sector (m - 1) :=
      positionAfter_index
    cases start with
    | index =>
      refine ⟨Nat.le_add_left _ _, le_refl _, positionAfter_index_index hpos, fun n h1 hn => ?_⟩
      rw [hearlier h1 (Nat.lt_succ_iff.mp hn)]
      nofun
    | sector k =>
      have hk : k < sectors := of_decide_eq_true hstart
      refine ⟨Nat.le_add_left _ _, Nat.succ_le_succ hk.le, hearlier (Nat.le_add_left _ _) hk,
        fun n h1 hn => ?_⟩
      have hn' : n < k + 1 := hn
      rw [hearlier h1 (by omega)]
      intro heq
      have := Position.sector.inj heq
      omega
  | sector m =>
    have hm : m < sectors := of_decide_eq_true hon
    cases start with
    | index =>
      refine ⟨show 1 ≤ sectors - m by omega, show sectors - m ≤ sectors + 1 by omega,
        positionAfter_sector_index hm, fun n h1 hn => ?_⟩
      have hn' : n < sectors - m := hn
      rw [positionAfter_sector (by omega)]
      nofun
    | sector k =>
      have hk : k < sectors := of_decide_eq_true hstart
      have hwait : waitFor (.sector m) sectors (.sector k)
          = if m < k then k - m else sectors - m + 1 + k := rfl
      by_cases hlt : m < k
      · rw [hwait, if_pos hlt]
        refine ⟨by omega, by omega, ?_, fun n h1 hn => ?_⟩
        · rw [positionAfter_sector (by omega), Nat.add_sub_cancel' hlt.le]
          rfl
        · rw [positionAfter_sector (by omega)]
          intro heq
          have := Position.sector.inj heq
          omega
      · rw [hwait, if_neg hlt]
        refine ⟨by omega, by omega, ?_, fun n h1 hn => ?_⟩
        · rw [Nat.add_assoc, positionAfter_add, positionAfter_sector_index hm,
            positionAfter_index (by omega) (by omega), Nat.add_sub_cancel_left]
          rfl
        · by_cases hle : n ≤ sectors
          · rw [positionAfter_sector_eq hm hle]
            split_ifs
            · intro heq
              have := Position.sector.inj heq
              omega
            · nofun
            · intro heq
              have := Position.sector.inj heq
              omega
          · omega

/-! ### The choice -/

section Best

variable {p : TagNo → Bool} {cost : TagNo → Nat} {l : List TagNo} {t : TagNo}

theorem find_of_exists (h : ∃ t ∈ l, p t = true) : ∃ t, l.find? p = some t :=
  Option.isSome_iff_exists.mp (List.find?_isSome.mpr h)

/-- The first candidate is the oldest. -/
theorem bestOf_find (h : l.find? p = some t) : BestOf p (fun _ => 0) l t := by
  obtain ⟨hp, older, newer, hl, holder⟩ := List.find?_eq_some_iff_append.mp h
  refine ⟨older, newer, hl, hp, fun u hu hpu => ?_, fun _ _ _ => le_refl 0⟩
  have := holder u hu
  rw [hpu] at this
  cases this

theorem leastBy_of_exists (h : ∃ t ∈ l, p t = true) : ∃ t, leastBy cost (l.filter p) = some t := by
  rcases hl : leastBy cost (l.filter p) with _ | t
  · obtain ⟨t, ht, hp⟩ := h
    rw [leastBy_eq_none, List.filter_eq_nil_iff] at hl
    exact absurd hp (hl t ht)
  · exact ⟨t, rfl⟩

/-- The least candidate, the oldest among equals. -/
theorem bestOf_leastBy (h : leastBy cost (l.filter p) = some t) : BestOf p cost l t := by
  obtain ⟨older, newer, hl, hlt, hle⟩ := leastBy_some h
  obtain ⟨l₁, l₂, rfl, hfilter₁, hfilter₂⟩ := List.filter_eq_append_iff.mp hl
  obtain ⟨skipped, rest, rfl, hskipped, hp, hrest⟩ := List.filter_eq_cons_iff.mp hfilter₂
  refine ⟨l₁ ++ skipped, rest, by simp, hp, fun u hu hpu => ?_, fun u hu hpu => hle u ?_⟩
  · rcases List.mem_append.mp hu with hu | hu
    · exact hlt u (hfilter₁ ▸ List.mem_filter.mpr ⟨hu, hpu⟩)
    · exact absurd hpu (hskipped u hu)
  · rw [← hrest]
    exact List.mem_filter.mpr ⟨hu, hpu⟩

theorem BestOf.of_all (h : BestOf p cost l t) (hall : ∀ u ∈ l, p u = true) :
    BestOf (fun _ => true) cost l t := by
  obtain ⟨older, newer, rfl, -, hlt, hle⟩ := h
  exact ⟨older, newer, rfl, rfl, fun u hu _ => hlt u hu (hall u (by simp [hu])),
    fun u hu _ => hle u hu (hall u (by simp [hu]))⟩

end Best

theorem Direction.beyond_reverse {x : Direction} {k t : Nat} (hne : t ≠ k) (h : x.beyond k t = false) :
    x.reverse.beyond k t = true := by
  cases x <;> simp only [Direction.beyond, Direction.reverse, decide_eq_false_iff_not, decide_eq_true_iff] at h ⊢
  · omega
  · omega

section Choose

variable {s : State} {d : Drive}

theorem State.chooseAging_none (h : s.chooseAging d = none) : ¬ ((s.geometry d).ageLimit ≠ 0
    ∧ ∃ t ∈ (s.drive d).queue, (s.tag t).passed = (s.geometry d).ageLimit) := by
  rintro ⟨hlimit, t, ht, hp⟩
  rw [State.chooseAging, if_neg hlimit, List.find?_eq_none] at h
  exact h t ht (beq_iff_eq.mpr hp)

theorem State.chooseAging_some {t : TagNo} (h : s.chooseAging d = some t) :
    (s.geometry d).ageLimit ≠ 0
      ∧ BestOf (fun t => (s.tag t).passed == (s.geometry d).ageLimit) (fun _ => 0) (s.drive d).queue t := by
  unfold State.chooseAging at h
  split at h
  · cases h
  · next hlimit => exact ⟨hlimit, bestOf_find h⟩

theorem BestOf.exists_mem {p : TagNo → Bool} {cost : TagNo → Nat} {l : List TagNo} {t : TagNo}
    (h : BestOf p cost l t) : ∃ t ∈ l, p t = true := by
  obtain ⟨older, newer, rfl, hp, -, -⟩ := h
  exact ⟨t, by simp, hp⟩

end Choose

/-- Settles O38: each step of Table 2-2 takes the best of its own candidates, and the next step is reached
when there is none. -/
theorem decisionFollowsSteps : Obligations.DecisionFollowsSteps := by
  intro s d hne
  dsimp only
  rcases haging : s.chooseAging d with _ | t
  case some =>
    obtain ⟨hlimit, hbest⟩ := State.chooseAging_some haging
    obtain ⟨u, hu, hpassed⟩ := hbest.exists_mem
    refine ⟨⟨t, (s.drive d).sweep⟩, by simp only [State.choose, haging], ?_⟩
    rw [if_pos ⟨hlimit, u, hu, by simpa using hpassed⟩]
    exact ⟨hbest, rfl⟩
  have hnone := State.chooseAging_none haging
  simp only [if_neg hnone]
  have holdest : (∀ k, (s.drive d).head.state ≠ .onTrack k) →
      ∃ t, s.choose d = some ⟨t, (s.drive d).sweep⟩
        ∧ BestOf (fun _ => true) (fun _ => 0) (s.drive d).queue t := fun hhead => by
    obtain ⟨t, rest, hqueue⟩ := List.exists_cons_of_ne_nil hne
    refine ⟨t, ?_, [], rest, hqueue, rfl, fun _ h => absurd h List.not_mem_nil, fun _ _ _ => le_refl 0⟩
    unfold State.choose
    rw [haging]
    dsimp only
    split
    · next k hk => exact absurd hk (hhead k)
    · rw [hqueue]
      rfl
  cases hhead : (s.drive d).head.state with
  | unknown | moving | settling =>
    obtain ⟨t, hchoose, hbest⟩ := holdest (by rw [hhead]; nofun)
    exact ⟨_, hchoose, hbest, rfl⟩
  | onTrack k =>
    have hchoose : s.choose d = s.chooseAt d k := by simp only [State.choose, haging, hhead]
    rw [hchoose, State.chooseAt]
    dsimp only
    split_ifs with hseek hturn hhere hbeyond
    · obtain ⟨t, ht⟩ := find_of_exists hseek
      exact ⟨⟨t, _⟩, by rw [State.chooseSameSeek, ht], bestOf_find ht, rfl⟩
    all_goals
      have hnoSeek : s.chooseSameSeek d k = none := by
        rw [State.chooseSameSeek, List.find?_eq_none]
        exact fun t ht hp => hseek ⟨t, ht, hp⟩
      rw [hnoSeek]
    · obtain ⟨t, ht⟩ := leastBy_of_exists (cost := fun t => ((s.work? t).map (s.waitOf d)).getD 0) hturn
      exact ⟨⟨t, _⟩, by rw [State.chooseRotational, ht], bestOf_leastBy ht, rfl⟩
    all_goals
      have hnoTurn : s.chooseRotational d k = none := by
        rw [State.chooseRotational, leastBy_eq_none, List.filter_eq_nil_iff]
        exact fun t ht hp => hturn ⟨t, ht, hp⟩
      rw [hnoTurn, State.chooseSweep]
      dsimp only
    · obtain ⟨t, ht⟩ := find_of_exists (p := fun t => s.trackOf t == k) (by simpa using hhere)
      exact ⟨⟨t, _⟩, by rw [ht], bestOf_find ht, rfl⟩
    all_goals
      have hnoHere : (s.drive d).queue.find? (fun t => s.trackOf t == k) = none := by
        rw [List.find?_eq_none]
        exact fun t ht hp => hhere ⟨t, ht, by simpa using hp⟩
      rw [hnoHere]
    · obtain ⟨t, ht⟩ := leastBy_of_exists (cost := fun t => apart (s.trackOf t) k) hbeyond
      exact ⟨⟨t, _⟩, by rw [State.nearestBeyond, ht], bestOf_leastBy ht, rfl⟩
    · have hnoBeyond : s.nearestBeyond d k (s.drive d).sweep = none := by
        rw [State.nearestBeyond, leastBy_eq_none, List.filter_eq_nil_iff]
        exact fun t ht hp => hbeyond ⟨t, ht, hp⟩
      have hall : ∀ t ∈ (s.drive d).queue,
          (s.drive d).sweep.reverse.beyond k (s.trackOf t) = true := fun t ht =>
        Direction.beyond_reverse (fun h => hhere ⟨t, ht, h⟩)
          (by simpa using fun hp => hbeyond ⟨t, ht, hp⟩)
      obtain ⟨u, hu⟩ := List.exists_mem_of_ne_nil _ hne
      obtain ⟨t, ht⟩ := leastBy_of_exists (cost := fun t => apart (s.trackOf t) k)
        (p := fun t => (s.drive d).sweep.reverse.beyond k (s.trackOf t)) ⟨u, hu, hall u hu⟩
      exact ⟨⟨t, _⟩, by rw [hnoBeyond, State.nearestBeyond, ht]; rfl, (bestOf_leastBy ht).of_all hall, rfl⟩

/-- A queue that is not empty has a choice (R33). -/
theorem State.choose_of_queue {s : State} {d : Drive} (h : (s.drive d).queue ≠ []) :
    ∃ c, s.choose d = some c := by
  obtain ⟨c, hc, -⟩ := decisionFollowsSteps s d h
  exact ⟨c, hc⟩

/-! ### One decision -/

/-- The chosen member has left the queue, the sweep direction is set and the others have aged (R40, R41). -/
def State.departs (s : State) (d : Drive) (c : Choice) : State :=
  ((s.leaveQueue d c.tag).setSweep d c.sweep).raisePassed d

section Departs

variable {s : State} {d : Drive} {c : Choice}

theorem State.decide1_eq (h : s.choose d = some c) : s.decide1 d = (s.departs d c).activate d c.tag := by
  simp only [State.decide1, h, State.departs]

theorem State.departs_drive : (s.departs d c).drive d = { s.drive d with
    queue := (s.drive d).queue.filter fun u => u != c.tag, sweep := c.sweep } := by
  simp [State.departs, State.raisePassed, State.leaveQueue]

theorem State.departs_drive_other : (s.departs d c).drive d.other = s.drive d.other := by
  simp [State.departs, State.raisePassed, State.leaveQueue]

theorem State.departs_tag_queued {u : TagNo} {r : Request} {p : Nat} (h : s.tag u = .queued r p) :
    (s.departs d c).tag u = .queued r
      (if u ∈ (s.drive d).queue ∧ u ≠ c.tag then age (s.geometry d).ageLimit p else p) := by
  have hqueue : (((s.leaveQueue d c.tag).setSweep d c.sweep).drive d).queue
      = (s.drive d).queue.filter fun u => u != c.tag := by simp [State.leaveQueue]
  have hlimit : (((s.leaveQueue d c.tag).setSweep d c.sweep).geometry d).ageLimit
      = (s.geometry d).ageLimit := by simp [State.leaveQueue, State.geometry]
  have htag : ((s.leaveQueue d c.tag).setSweep d c.sweep).tag u = s.tag u := rfl
  rw [State.departs, State.raisePassed, State.tag_mapTags, hqueue, hlimit, htag, h]
  simp only [List.mem_filter, bne_iff_ne]
  split <;> rfl

theorem State.departs_tag_chosen {r : Request} {p : Nat} (h : s.tag c.tag = .queued r p) :
    (s.departs d c).tag c.tag = .queued r p := by
  rw [State.departs_tag_queued h, if_neg fun hc => hc.2 rfl]

theorem State.departs_tag_other {u : TagNo} (h : ∀ r p, s.tag u ≠ .queued r p) :
    (s.departs d c).tag u = s.tag u := by
  have htag : ((s.leaveQueue d c.tag).setSweep d c.sweep).tag u = s.tag u := rfl
  rw [State.departs, State.raisePassed, State.tag_mapTags, htag]
  cases hu : s.tag u with
  | queued r p => exact absurd hu (h r p)
  | _ => rfl

end Departs

section Activate

variable {s : State} {d : Drive} {t : TagNo}

theorem State.orderMotion_drive (k : MotionKind) (target : Nat) :
    (s.orderMotion d t k target).drive d = { s.drive d with head :=
      { (s.drive d).head with motion := some ⟨k, target, .tag t, .waiting, 0⟩ } } := by
  rw [State.orderMotion, State.setPhase_eq]
  exact State.drive_setHead s d _

theorem State.orderMotion_drive_other (k : MotionKind) (target : Nat) :
    (s.orderMotion d t k target).drive d.other = s.drive d.other := by
  rw [State.orderMotion, State.setPhase_eq]
  exact State.drive_setHead_other s d _

theorem State.orderMotion_tag {k : MotionKind} {target : Nat} {r : Request} {p : Nat} {ph : Phase}
    {m : Bool} (h : s.tag t = .active r p ph m) :
    (s.orderMotion d t k target).tag t = .active r p .position m := by
  have h' : (s.setHead d { (s.drive d).head with motion := some ⟨k, target, .tag t, .waiting, 0⟩ }).tag t
      = .active r p ph m := h
  rw [State.orderMotion, State.setPhase_active h']
  exact State.tag_setTag _ t _

theorem State.orderMotion_tag_ne {k : MotionKind} {target : Nat} {u : TagNo} (h : u ≠ t) :
    (s.orderMotion d t k target).tag u = s.tag u :=
  State.setPhase_tag_ne h

variable {r : Request} {p : Nat}

theorem State.activate_complete (h : s.tag t = .queued r p)
    (hstep : firstStep r.work (s.drive d).head.state = .complete) :
    s.activate d t = s.finish t r .ok := by
  simp only [State.activate, h, hstep]

theorem State.activate_rotate (h : s.tag t = .queued r p)
    (hstep : firstStep r.work (s.drive d).head.state = .rotate) :
    s.activate d t = s.setTag t (.active r p .rotate false) := by
  simp only [State.activate, h, hstep]

theorem State.activate_order {k : MotionKind} {target : Nat} (h : s.tag t = .queued r p)
    (hstep : firstStep r.work (s.drive d).head.state = .order k target) :
    s.activate d t = (s.setTag t (.active r p .position false)).orderMotion d t k target := by
  simp only [State.activate, h, hstep]

/-- The chosen request is ACTIVE with its count, or has completed at once (R35, R39). -/
theorem State.activate_tag (h : s.tag t = .queued r p) :
    (∃ ph, (s.activate d t).tag t = .active r p ph false)
      ∨ ∃ x, (s.activate d t).tag t = .done r x
        ∧ (s.activate d t).list = s.list ++ [.reply t] := by
  cases hstep : firstStep r.work (s.drive d).head.state with
  | complete =>
    rw [State.activate_complete h hstep]
    exact .inr ⟨_, State.tag_setTag s t _, rfl⟩
  | rotate =>
    rw [State.activate_rotate h hstep]
    exact .inl ⟨_, State.tag_setTag s t _⟩
  | order k target =>
    rw [State.activate_order h hstep]
    exact .inl ⟨_, State.orderMotion_tag (State.tag_setTag s t _)⟩

theorem State.activate_tag_ne {u : TagNo} (hu : u ≠ t) : (s.activate d t).tag u = s.tag u := by
  unfold State.activate
  split
  · split
    · exact State.tag_setTag_ne s hu _
    · exact State.tag_setTag_ne s hu _
    · exact (State.orderMotion_tag_ne hu).trans (State.tag_setTag_ne s hu _)
  · rfl

/-- The start of a request orders a motion or leaves the drives alone (R39). -/
theorem State.activate_drive :
    ∃ x, (s.activate d t).drive d = { s.drive d with head := x } := by
  unfold State.activate
  split
  · split
    · exact ⟨_, rfl⟩
    · exact ⟨_, rfl⟩
    · exact ⟨_, State.orderMotion_drive _ _⟩
  · exact ⟨_, rfl⟩

theorem State.activate_drive_other : (s.activate d t).drive d.other = s.drive d.other := by
  unfold State.activate
  split
  · split
    · rfl
    · rfl
    · exact State.orderMotion_drive_other _ _
  · rfl

end Activate

/-- What a decision does to its drive (R39 to R41). -/
theorem State.decide1_drive {s : State} {d : Drive} {c : Choice} (h : s.choose d = some c) :
    ∃ x, (s.decide1 d).drive d = { s.drive d with
      queue := (s.drive d).queue.filter fun u => u != c.tag, sweep := c.sweep, head := x } := by
  rw [State.decide1_eq h]
  obtain ⟨x, hx⟩ := State.activate_drive (s := s.departs d c) (d := d) (t := c.tag)
  exact ⟨x, by rw [hx, State.departs_drive]⟩

theorem State.decide1_drive_other {s : State} {d : Drive} : (s.decide1 d).drive d.other = s.drive d.other := by
  rcases h : s.choose d with _ | c
  · simp only [State.decide1, h]
  · rw [State.decide1_eq h, State.activate_drive_other, State.departs_drive_other]

section FirstStep

variable {w : Work}

theorem firstStep_onTrack (hrecal : w ≠ .recal) (hseek : ∀ k, w ≠ .seek k) (t : Nat) :
    firstStep w (.onTrack t) = if t = w.track then .rotate else .order .seek w.track := by
  cases w with
  | recal => exact absurd rfl hrecal
  | seek k => exact absurd rfl (hseek k)
  | _ => rfl

theorem firstStep_lost (hrecal : w ≠ .recal) {h : HeadState} (hhead : ∀ t, h ≠ .onTrack t) :
    firstStep w h = .order .recalThenSeek w.track := by
  cases h with
  | onTrack t => exact absurd rfl (hhead t)
  | _ => cases w with
    | recal => exact absurd rfl hrecal
    | _ => rfl

end FirstStep

/-- Settles O39: the chosen tag departs, the members left in the queue age, and the chosen one starts. -/
theorem decisionStartsAndAges : Obligations.DecisionStartsAndAges := by
  intro s d c r p hok hchoose htag t starts
  have ht : t = (s.departs d c).activate d c.tag := State.decide1_eq hchoose
  have hbase : (s.departs d c).tag c.tag = .queued r p := State.departs_tag_chosen htag
  have hhead : ((s.departs d c).drive d).head = (s.drive d).head := by rw [State.departs_drive]
  obtain ⟨x, hdrive⟩ := State.decide1_drive hchoose
  refine ⟨by rw [hdrive], by rw [hdrive], fun u y n hu hn => ?_, fun u hu hq => ?_, ?_⟩
  · rw [ht, State.activate_tag_ne hu, State.departs_tag_queued hn, age]
    have hmem : u ∈ (s.drive d).queue ↔ y.drive = d := by
      rw [hok.member, hn]
      exact beq_iff_eq
    by_cases hd : y.drive = d
    · by_cases hlimit : n = (s.geometry d).ageLimit <;> simp [hmem, hd, hu, hlimit]
    · simp [hmem, hd]
  · rw [ht, State.activate_tag_ne hu, State.departs_tag_other hq]
  · have hstarts : ∀ k target, firstStep r.work (s.drive d).head.state = .order k target →
        starts k target := fun k target hstep => by
      rw [← hhead] at hstep
      refine ⟨?_, ?_⟩
      · rw [ht, State.activate_order hbase hstep]
        exact State.orderMotion_tag (State.tag_setTag _ _ _)
      · rw [ht, State.activate_order hbase hstep, State.orderMotion_drive]
        exact congrArg (fun h : Head => { h with
          motion := some ⟨k, target, .tag c.tag, .waiting, 0⟩ }) hhead
    have hrotates : firstStep r.work (s.drive d).head.state = .rotate →
        t.tag c.tag = .active r p .rotate false ∧ (t.drive d).head = (s.drive d).head := fun hstep => by
      rw [← hhead] at hstep
      have hactivate := State.activate_rotate hbase hstep
      refine ⟨?_, ?_⟩
      · rw [ht, hactivate, State.tag_setTag]
      · rw [ht, hactivate, State.drive_setTag, hhead]
    split
    · next hwork =>
      refine hstarts _ _ ?_
      rw [hwork]
      rfl
    · next k h hwork hstate =>
      have hstep : firstStep r.work (s.drive d).head.state
          = if h = k then .complete else .order .seek k := by rw [hwork, hstate]; rfl
      split_ifs at hstep ⊢
      · rw [← hhead] at hstep
        rw [ht, State.activate_complete hbase hstep]
        obtain ⟨hdone, -, hlist, -, -⟩ := State.finish_spec (s.departs d c) c.tag r .ok
        rw [hdone, hlist, hwork]
        exact ⟨rfl, rfl⟩
      · exact hstarts _ _ hstep
    · next h hstate hrecal hseek =>
      have hstep : firstStep r.work (s.drive d).head.state
          = if h = r.work.track then .rotate else .order .seek r.work.track := by
        rw [hstate]
        exact firstStep_onTrack hrecal hseek h
      split_ifs at hstep ⊢
      · exact hrotates hstep
      · exact hstarts _ _ hstep
    · next hrecal hstate _ =>
      exact hstarts _ _ (firstStep_lost hrecal hstate)

/-- Each decision takes a member out of the queue, so a drive left free and TURNING has none (R31). -/
theorem State.decisions_queue {d : Drive} : ∀ (n : Nat) (s : State), (s.drive d).queue.length ≤ n →
    (s.decisions d n).isFree d = true → (s.decisions d n).isTurning d = true →
    ((s.decisions d n).drive d).queue = []
  | 0, s, hn, _, _ => List.length_eq_zero_iff.mp (Nat.le_zero.mp hn)
  | n + 1, s, hn, hfree, hturning => by
    unfold State.decisions at hfree hturning ⊢
    split at hfree
    · next hcond =>
      rw [if_pos hcond] at hturning ⊢
      refine State.decisions_queue n _ (Nat.le_of_lt_succ (lt_of_lt_of_le ?_ hn)) hfree hturning
      have hne : (s.drive d).queue ≠ [] := by simpa using (Bool.and_eq_true_iff.mp hcond).2
      obtain ⟨c, hc⟩ := State.choose_of_queue hne
      obtain ⟨x, hx⟩ := State.decide1_drive hc
      rw [hx]
      exact List.length_filter_lt_length_iff_exists.mpr ⟨c.tag, State.choose_mem hc, by simp⟩
    · next hcond =>
      rw [if_neg hcond] at hturning ⊢
      simpa [hfree, hturning] using hcond

/-- Settles O41: the decisions empty the queue of a drive left free, and then run-on is due or runs. -/
theorem noWorkLeftOnFreeDrive : Obligations.NoWorkLeftOnFreeDrive := by
  intro s d hturning hfree
  unfold State.afterFree at hturning hfree ⊢
  have hqueue := State.decisions_queue (d := d) _ s (le_refl _)
  generalize s.decisions d (s.drive d).queue.length = u at hturning hfree hqueue ⊢
  unfold State.runOnIfDue at hturning hfree ⊢
  by_cases hdue : (u.isFree d && u.isTurning d && (u.drive d).queue.isEmpty
      && (u.drive d).spindle.runOnTimer.isNone) = true
  · rw [if_pos hdue] at hturning ⊢
    simp only [Bool.and_eq_true, List.isEmpty_iff] at hdue
    split_ifs at hturning ⊢
    · rw [State.isTurning, State.stopSpindle, State.drive_setSpindle] at hturning
      cases hturning
    · rw [State.drive_setSpindle]
      exact ⟨hdue.1.2, rfl⟩
  · rw [if_neg hdue] at hturning hfree ⊢
    have hempty := hqueue hfree hturning
    refine ⟨hempty, ?_⟩
    by_contra hnone
    exact hdue (by simp [hfree, hturning, hempty, Option.not_isSome_iff_eq_none.mp hnone])

end Sys2Proof.Machine

/-! ## The end of a drive's requests

What a drive failure does to the tags and the list (R17, R22, R74), and the drive failure as a whole. -/

namespace Sys2Proof.Machine

/-- The tag is QUEUED or ACTIVE. -/
def TagState.inWork : TagState → Bool
  | .queued _ _ => true
  | .active _ _ _ _ => true
  | _ => false

/-- The tag's record after its drive has failed: DONE, ABORTED under the abort-pending mark (R17, R22). -/
def State.failed (s : State) (st : Status) (t : TagNo) : TagState :=
  match s.tag t with
  | .queued r _ => .done r ⟨st, reachedAt r.work st (s.drive r.drive).head.state⟩
  | .active r _ _ m =>
    let final := if m = true then .aborted else st
    .done r ⟨final, reachedAt r.work final (s.drive r.drive).head.state⟩
  | x => x

section Failed

variable {s : State} {st : Status} {t : TagNo}

theorem State.failed_queued {r : Request} {p : Nat} (h : s.tag t = .queued r p) :
    s.failed st t = .done r ⟨st, reachedAt r.work st (s.drive r.drive).head.state⟩ := by
  simp only [State.failed, h]

theorem State.failed_active {r : Request} {p : Nat} {ph : Phase} {m : Bool}
    (h : s.tag t = .active r p ph m) : s.failed st t = .done r ⟨if m = true then .aborted else st,
      reachedAt r.work (if m = true then .aborted else st) (s.drive r.drive).head.state⟩ := by
  simp only [State.failed, h]

theorem State.failed_congr {u : State} (htag : u.tag t = s.tag t) (hdrive : ∀ d, u.drive d = s.drive d) :
    u.failed st t = s.failed st t := by
  simp only [State.failed, htag, hdrive]

/-- A request ended by its drive's failure (R17). -/
theorem State.failTag_spec (h : (s.tag t).inWork = true) :
    (s.failTag t st).tag t = s.failed st t
      ∧ (∀ u, u ≠ t → (s.failTag t st).tag u = s.tag u)
      ∧ (s.failTag t st).list = s.list ++ [.reply t]
      ∧ (s.failTag t st).stall = decide (4 ≤ noticeCount (s.failTag t st).list) := by
  cases ht : s.tag t with
  | queued r p =>
    obtain ⟨hself, hothers, hlist, -, -⟩ := State.finish_spec s t r st
    rw [State.failTag_queued ht]
    exact ⟨by rw [hself, State.failed_queued ht], hothers, hlist, rfl⟩
  | active r p ph m =>
    obtain ⟨hself, hothers, hlist, -, -⟩ := State.finish_spec s t r (if m then .aborted else st)
    rw [State.failTag_active ht]
    exact ⟨by rw [hself, State.failed_active ht], hothers, hlist, rfl⟩
  | _ =>
    rw [ht] at h
    cases h

/-- The requests of a list of tags ended one after another (R74). -/
theorem State.foldl_failTag_spec : ∀ (l : List TagNo) (s : State), l.Nodup →
    (∀ u ∈ l, (s.tag u).inWork = true) →
    (∀ u, (l.foldl (fun s t => s.failTag t st) s).tag u = if u ∈ l then s.failed st u else s.tag u)
      ∧ (l.foldl (fun s t => s.failTag t st) s).list = s.list ++ l.map .reply
      ∧ (s.stall = decide (4 ≤ noticeCount s.list) →
        (l.foldl (fun s t => s.failTag t st) s).stall
          = decide (4 ≤ noticeCount (l.foldl (fun s t => s.failTag t st) s).list))
  | [], s, _, _ => ⟨fun _ => rfl, (List.append_nil _).symm, id⟩
  | t :: l, s, hnodup, hwork => by
    obtain ⟨hself, hothers, hlist, hstall⟩ := State.failTag_spec (st := st) (hwork t List.mem_cons_self)
    obtain ⟨hnot, hrest⟩ := List.nodup_cons.mp hnodup
    have hne : ∀ u ∈ l, u ≠ t := fun u hu h => hnot (h ▸ hu)
    obtain ⟨ihtag, ihlist, ihstall⟩ := State.foldl_failTag_spec l (s.failTag t st) hrest fun u hu => by
      rw [hothers u (hne u hu)]
      exact hwork u (List.mem_cons_of_mem _ hu)
    refine ⟨fun u => ?_, by rw [List.foldl_cons, ihlist, hlist]; simp, fun _ => ihstall hstall⟩
    rw [List.foldl_cons, ihtag]
    by_cases hu : u ∈ l
    · rw [if_pos hu, if_pos (List.mem_cons_of_mem _ hu)]
      exact State.failed_congr (hothers u (hne u hu)) (State.failTag_drive t st)
    · by_cases hut : u = t
      · rw [if_neg hu, if_pos (List.mem_cons.mpr (.inl hut)), hut, hself]
      · rw [if_neg hu, if_neg (by simp [hu, hut]), hothers u hut]

end Failed

section EndRequests

variable {s : State} {d : Drive}

/-- The ACTIVE request of a drive and then its queue (R74). -/
def State.requestsOn (s : State) (d : Drive) : List TagNo := (s.activeTag d).toList ++ (s.drive d).queue

theorem State.activeTag_iff (h : s.QueueOk) {t : TagNo} :
    s.activeTag d = some t ↔ (s.tag t).activeOn d = true :=
  ⟨State.activeTag_some, fun ht => State.activeTag_eq (fun u hu => h.single d u t hu ht) ht⟩

theorem State.mem_requestsOn (h : s.QueueOk) {t : TagNo} : t ∈ s.requestsOn d ↔
    (s.tag t).activeOn d = true ∨ (s.tag t).queuedOn d = true := by
  rw [State.requestsOn, List.mem_append, Option.mem_toList, State.activeTag_iff h,
    h.member]

theorem TagState.inWork_of {x : TagState} (h : x.activeOn d = true ∨ x.queuedOn d = true) :
    x.inWork = true := by
  cases x <;> simp_all [TagState.inWork, TagState.activeOn, TagState.queuedOn]

theorem State.requestsOn_nodup (h : s.QueueOk) : (s.requestsOn d).Nodup := by
  rw [State.requestsOn, List.nodup_append]
  refine ⟨by cases s.activeTag d <;> simp, h.nodup d, fun t ht u hu heq => ?_⟩
  subst heq
  have hactive := State.activeTag_some (by simpa using ht)
  have hqueued := (h.member d t).mp hu
  cases hx : s.tag t with
  | queued =>
    rw [hx] at hactive
    cases hactive
  | _ =>
    rw [hx] at hqueued
    cases hqueued

/-- What the end of a drive's requests does to the tags and the list (R17, R74). -/
theorem State.endRequests_spec (h : s.QueueOk) (st : Status) :
    (∀ u, (s.endRequests d st).tag u = if u ∈ s.requestsOn d then s.failed st u else s.tag u)
      ∧ (s.endRequests d st).list = s.list ++ (s.requestsOn d).map .reply
      ∧ (s.stall = decide (4 ≤ noticeCount s.list) →
        (s.endRequests d st).stall = decide (4 ≤ noticeCount (s.endRequests d st).list)) := by
  obtain ⟨htag, hlist, hstall⟩ := State.foldl_failTag_spec (st := st) (s.requestsOn d) (s.setQueue d [])
    (State.requestsOn_nodup h) fun u hu => TagState.inWork_of ((State.mem_requestsOn h).mp hu)
  refine ⟨fun u => ?_, hlist, hstall⟩
  have hhead : (s.setQueue d []).failed st u = s.failed st u := by
    have hheads : ∀ e, ((s.setQueue d []).drive e).head = (s.drive e).head := fun e => by
      rcases Drive.eq_or_other d e with rfl | rfl
      · rw [State.drive_setQueue]
      · rw [State.drive_setQueue_other]
    have htags : (s.setQueue d []).tag u = s.tag u := rfl
    simp only [State.failed, htags, hheads]
  exact (htag u).trans (by rw [hhead]; rfl)

end EndRequests

/-! ### Queues and stamps carried over -/

/-- A tag's record has changed neither to QUEUED nor from it, but for its count; a request it has is the same
or newly stamped. -/
structure TagState.Follows (limit : Drive → Nat) (next : Nat) (x y : TagState) : Prop where
  queued : ∀ d, y.queuedOn d = x.queuedOn d
  stamp : ∀ r, y.request? = some r → (∃ q, x.request? = some q ∧ r.stamp = q.stamp)
    ∨ r.stamp < next ∧ ∀ d, y.queuedOn d = false
  passed : ∀ d, y.queuedOn d = true ∨ y.activeOn d = true → y.passed ≤ limit d
    ∨ (x.queuedOn d = true ∨ x.activeOn d = true) ∧ y.passed ≤ x.passed

theorem TagState.Follows.refl {limit : Drive → Nat} {next : Nat} (x : TagState) :
    x.Follows limit next x :=
  ⟨fun _ => rfl, fun r h => .inl ⟨r, h, rfl⟩, fun _ h => .inr ⟨h, le_refl _⟩⟩

/-- The age limits in force. -/
def State.limits (s : State) (d : Drive) : Nat := (s.geometry d).ageLimit

section Follows

variable {s t : State}

theorem State.stampOf_queued {t : TagNo} {d : Drive} (h : (s.tag t).queuedOn d = true) :
    ∃ r, (s.tag t).request? = some r ∧ s.stampOf t = r.stamp := by
  cases ht : s.tag t with
  | queued r p => exact ⟨r, rfl, by rw [State.stampOf, ht]; rfl⟩
  | _ =>
    rw [ht] at h
    cases h

theorem State.stampOf_follows {u : TagNo} {d : Drive} {limit : Drive → Nat} {next : Nat}
    (h : (s.tag u).Follows limit next (t.tag u)) (hq : (s.tag u).queuedOn d = true) :
    t.stampOf u = s.stampOf u := by
  have hqueued : (t.tag u).queuedOn d = true := (h.queued d).trans hq
  obtain ⟨r, hr, hrstamp⟩ := State.stampOf_queued hqueued
  rcases h.stamp r hr with ⟨q, hrq, heq⟩ | ⟨-, hnot⟩
  · rw [hrstamp, State.stampOf, hrq, heq]
    rfl
  · rw [hnot d] at hqueued
    cases hqueued

variable (h : s.QueueOk) (hstamp : s.nextStamp ≤ t.nextStamp)
include h hstamp

theorem State.QueueOk.stamp_follows {u : TagNo} {limit : Drive → Nat}
    (hu : (s.tag u).Follows limit t.nextStamp (t.tag u)) {r : Request}
    (hr : (t.tag u).request? = some r) : r.stamp < t.nextStamp := by
  rcases hu.stamp r hr with ⟨q, hq, heq⟩ | ⟨hlt, -⟩
  · rw [heq]
    exact lt_of_lt_of_le (h.stamps u q hq) hstamp
  · exact hlt

omit hstamp in
theorem State.QueueOk.aged_follows {u : TagNo} {d : Drive} {next : Nat}
    (hu : (s.tag u).Follows s.limits next (t.tag u))
    (hq : (t.tag u).queuedOn d = true ∨ (t.tag u).activeOn d = true) :
    (t.tag u).passed ≤ (s.geometry d).ageLimit := by
  rcases hu.passed d hq with hle | ⟨hon, hle⟩
  · exact hle
  · exact hle.trans (h.aged d u hon)

/-- The queues stay in order under changes that touch neither them nor what is QUEUED. -/
theorem State.QueueOk.congr (hqueue : ∀ d, (t.drive d).queue = (s.drive d).queue)
    (hlimit : ∀ d, t.limits d = s.limits d)
    (htag : ∀ u, (s.tag u).Follows s.limits t.nextStamp (t.tag u))
    (hactive : ∀ u d, (t.tag u).activeOn d = true → (s.tag u).activeOn d = true) : t.QueueOk where
  member := fun d u => by rw [hqueue, (htag u).queued, h.member]
  nodup := fun d => by
    rw [hqueue]
    exact h.nodup d
  order := fun d => by
    have hsame : ∀ u ∈ (s.drive d).queue, t.stampOf u = s.stampOf u := fun u hu =>
      State.stampOf_follows (htag u) ((h.member d u).mp hu)
    rw [hqueue]
    exact (h.order d).imp_of_mem fun hu hv hle => by rwa [hsame _ hu, hsame _ hv]
  stamps := fun u r hr => h.stamp_follows hstamp (htag u) hr
  single := fun d u v hu hv => h.single d u v (hactive u d hu) (hactive v d hv)
  aged := fun d u hu => (h.aged_follows (htag u) hu).trans (hlimit d).ge

end Follows

/-! ### Drive failures -/

section Failures

variable (s : State) (d : Drive)

/-- A drive failure but for what ends its happening (R73 to R76). -/
def State.driveFails (ev : DriveEvent) (st : Status) (m : Media) : State :=
  (((((s.raiseEvent d ev).cutPass d).clearReservation d).orphanMotion d).endRequests d st).stopSpindle d m

theorem State.failDrive_eq (ev : DriveEvent) (st : Status) (m : Media) :
    s.failDrive d ev st m = (s.driveFails d ev st m).endHappening := rfl

variable {s d}

theorem State.cutPass_off (h : s.passOn d = false) : s.cutPass d = s := by
  unfold State.cutPass
  split
  · rfl
  · next p hp =>
    rw [if_neg fun hd => ?_]
    simp [State.passOn, hp, hd] at h

/-- A pass cut off by a failure of its drive: no hold, no record, a detached pass's buffer free (R122). -/
theorem State.cutPass_on {p : Pass} (hp : s.pass = some p) (hd : p.drive = d) :
    s.cutPass d = s.dropPass (if p.owner = .detached then p.buffer else none) := by
  simp only [State.cutPass, hp, if_pos hd]
  cases p.owner <;> rfl

theorem State.dropPass_buffer (b : Option BufNo) (c : BufNo) : (s.dropPass b).buffer c
    = if b = some c then ⟨.free, (s.buffer c).contents⟩ else s.buffer c :=
  State.freeBuffer_buffer _ b c

theorem State.passOn_iff : s.passOn d = true ↔ ∃ p, s.pass = some p ∧ p.drive = d := by
  simp [State.passOn, Option.any_eq_true]

/-- What the cut of a pass does (R122, R133). -/
theorem State.cutPass_spec :
    (if s.passOn d = true then
        (s.cutPass d).pass = none ∧ (s.cutPass d).port = s.port.idle ∧ (s.cutPass d).bus.holder = none
      else (s.cutPass d).pass = s.pass ∧ (s.cutPass d).port = s.port
        ∧ (s.cutPass d).bus.holder = s.bus.holder)
      ∧ (s.cutPass d).bus.reservation = s.bus.reservation
      ∧ (s.cutPass d).bus.alternation = s.bus.alternation
      ∧ (∀ b, ((s.cutPass d).buffer b).contents = (s.buffer b).contents
          ∧ ((s.cutPass d).buffer b).binding =
            if (s.pass.any fun p => p.drive == d && p.owner == .detached && p.buffer == some b) = true
            then .free else (s.buffer b).binding)
      ∧ s.cutPass d = { s with
          pass := (s.cutPass d).pass, port := (s.cutPass d).port, bus := (s.cutPass d).bus
          buffers := (s.cutPass d).buffers } := by
  by_cases hon : s.passOn d = true
  · obtain ⟨p, hp, hd⟩ := State.passOn_iff.mp hon
    rw [State.cutPass_on hp hd, if_pos hon]
    generalize hb : (if p.owner = .detached then p.buffer else none) = c
    have hframe := State.dropPass_frame s c
    refine ⟨?_, ?_, ?_, fun b => ?_, ?_⟩
    · rw [hframe]
      exact ⟨rfl, rfl, rfl⟩
    · rw [hframe]
      rfl
    · rw [hframe]
      rfl
    · have hcond : (s.pass.any fun p => p.drive == d && p.owner == .detached && p.buffer == some b) = true
          ↔ c = some b := by
        rw [← hb, hp]
        by_cases howner : p.owner = .detached <;> simp [hd, howner]
      rw [State.dropPass_buffer]
      by_cases hc : c = some b
      · rw [if_pos hc, if_pos (hcond.mpr hc)]
        exact ⟨rfl, rfl⟩
      · rw [if_neg hc, if_neg (mt hcond.mp hc)]
        exact ⟨rfl, rfl⟩
    · rw [hframe]
      rfl
  · have hoff : s.passOn d = false := by simpa using hon
    rw [State.cutPass_off hoff, if_neg hon]
    refine ⟨⟨rfl, rfl, rfl⟩, rfl, rfl, fun b => ⟨rfl, ?_⟩, rfl⟩
    rw [if_neg]
    intro hany
    obtain ⟨p, hp, hpd⟩ := (Option.any_eq_true _ _).mp hany
    simp only [Bool.and_eq_true, beq_iff_eq] at hpd
    exact hon (State.passOn_iff.mpr ⟨p, hp, hpd.1.1⟩)

end Failures

/-- What is left of the first state when only tags, drives, list, bus and port may differ. -/
theorem State.WorkOnly.frame {s t : State} (h : s.WorkOnly t) : t = { s with
    list := t.list, stall := t.stall, tags := t.tags, units := t.units, bus := t.bus, port := t.port } := by
  obtain ⟨rx, tx, session, nextStamp, pass, buffers, rate, hold, levels, resetHold, draws, pending⟩ := h
  cases t
  dsimp only at *
  subst rx tx session nextStamp pass buffers rate hold levels resetHold draws pending
  rfl

theorem State.setSpindle_frame (s : State) (d : Drive) (x : Spindle) :
    s.setSpindle d x = { s with units := (s.setSpindle d x).units } := rfl

section DriveFails

variable (s : State) (d : Drive)

/-- A drive failure before the drive's requests end: its event, the pass, the reservation and the motion
(R75, R76). -/
def State.struck (ev : DriveEvent) : State :=
  (((s.raiseEvent d ev).cutPass d).clearReservation d).orphanMotion d

/-- A drive failure before the requests end leaves the tags alone. -/
theorem State.struck_frame (ev : DriveEvent) : s.struck d ev = { s with
    list := (s.raiseEvent d ev).list, stall := (s.raiseEvent d ev).stall
    pass := (s.struck d ev).pass, port := (s.struck d ev).port, bus := (s.struck d ev).bus
    buffers := (s.struck d ev).buffers, units := (s.struck d ev).units } := by
  obtain ⟨-, -, -, -, hcut⟩ := State.cutPass_spec (s := s.raiseEvent d ev) (d := d)
  rw [State.struck, State.clearReservation_eq, State.orphanMotion_frame, hcut, State.raiseEvent_eq]

/-- What a drive failure does to the pass, the lines, the bus and the buffers (R75, R122, R133). -/
theorem State.struck_spec (ev : DriveEvent) :
    (if s.passOn d = true then
        (s.struck d ev).pass = none ∧ (s.struck d ev).port = s.port.idle
          ∧ (s.struck d ev).bus.holder = none
      else (s.struck d ev).pass = s.pass ∧ (s.struck d ev).port = s.port
        ∧ (s.struck d ev).bus.holder = s.bus.holder)
      ∧ (s.struck d ev).bus.reservation = (if s.bus.reservation = some d then none else s.bus.reservation)
      ∧ (s.struck d ev).bus.alternation = s.bus.alternation
      ∧ ∀ b, ((s.struck d ev).buffer b).contents = (s.buffer b).contents
          ∧ ((s.struck d ev).buffer b).binding =
            if (s.pass.any fun p => p.drive == d && p.owner == .detached && p.buffer == some b) = true
            then .free else (s.buffer b).binding := by
  have hu : (s.raiseEvent d ev).pass = s.pass ∧ (s.raiseEvent d ev).port = s.port
      ∧ (s.raiseEvent d ev).bus = s.bus ∧ (s.raiseEvent d ev).buffers = s.buffers := by
    rw [State.raiseEvent_eq]
    exact ⟨rfl, rfl, rfl, rfl⟩
  obtain ⟨hpass, hport, hbus, hbuffers⟩ := hu
  obtain ⟨hcut, hreservation, halternation, hcontents, -⟩ :=
    State.cutPass_spec (s := s.raiseEvent d ev) (d := d)
  have hon : (s.raiseEvent d ev).passOn d = s.passOn d := by rw [State.passOn, State.passOn, hpass]
  rw [hon, hpass, hport, hbus] at hcut
  rw [hbus] at hreservation halternation
  simp only [State.buffer_congr hbuffers, hpass] at hcontents
  rw [State.struck, State.clearReservation_eq]
  refine ⟨hcut, ?_, halternation, hcontents⟩
  rw [← hreservation]
  rfl

theorem State.struck_drive (ev : DriveEvent) : (s.struck d ev).drive d = { s.drive d with
    head := { (s.drive d).head with motion := motionLeft (s.drive d).head.motion } } := by
  rw [State.struck, State.orphanMotion_drive, State.drive_clearReservation, State.cutPass_drive,
    State.raiseEvent_drive]

theorem State.struck_drive_other (ev : DriveEvent) :
    (s.struck d ev).drive d.other = s.drive d.other := by
  rw [State.struck, State.orphanMotion_drive_other, State.drive_clearReservation, State.cutPass_drive,
    State.raiseEvent_drive]

variable {s d}

theorem State.struck_queueOk (h : s.QueueOk) (ev : DriveEvent) : (s.struck d ev).QueueOk := by
  have hdrive : ∀ e, ((s.struck d ev).drive e).queue = (s.drive e).queue
      ∧ ((s.struck d ev).drive e).record = (s.drive e).record := fun e => by
    rcases Drive.eq_or_other d e with rfl | rfl
    · rw [State.struck_drive]
      exact ⟨rfl, rfl⟩
    · rw [State.struck_drive_other]
      exact ⟨rfl, rfl⟩
  have htags : ∀ u, (s.struck d ev).tag u = s.tag u := State.tag_congr (by rw [State.struck_frame])
  refine h.congr (by rw [State.struck_frame]) (fun e => (hdrive e).1) (fun e => ?_) (fun u => ?_)
    fun u e hu => htags u ▸ hu
  · rw [State.limits, State.limits, State.geometry, State.geometry, (hdrive e).2]
  · rw [htags u]
    exact .refl _

/-- Settles O46: the event, the pass and the motion first, then the requests in order, then the spindle. -/
theorem driveFailureEffects : Obligations.DriveFailureEffects := by
  intro s d ev st media hok hone
  refine ⟨s.driveFails d ev st media, s.failDrive_eq d ev st media, ?_⟩
  obtain ⟨hcut, hreservation, halternation, hcontents⟩ := s.struck_spec d ev
  have hdrive := s.struck_drive d ev
  have hother := s.struck_drive_other d ev
  have htags : ∀ u, (s.struck d ev).tag u = s.tag u := State.tag_congr (by rw [State.struck_frame])
  have hlists : (s.struck d ev).list = (s.raiseEvent d ev).list
      ∧ (s.struck d ev).stall = decide (4 ≤ noticeCount (s.struck d ev).list) := by
    rw [State.struck_frame, State.raiseEvent_eq]
    exact ⟨rfl, rfl⟩
  have hrequests : (s.struck d ev).requestsOn d = (s.activeTag d).toList ++ (s.drive d).queue := by
    have hactive : (s.struck d ev).activeTag d = s.activeTag d := by simp only [State.activeTag, htags]
    rw [State.requestsOn, hactive, hdrive]
  have hframe : s.struck d ev = _ := s.struck_frame d ev
  have hstruck := State.struck_queueOk (d := d) hok ev
  have hq : s.driveFails d ev st media = ((s.struck d ev).endRequests d st).stopSpindle d media := rfl
  rw [hq]
  generalize s.struck d ev = o at *
  obtain ⟨htag, hlist, hstall⟩ := State.endRequests_spec (d := d) hstruck st
  obtain ⟨hwork, hbus, hport⟩ := State.endRequests_driveWork o d st
  have hfailed : ∀ u x, s.tag u = x → x.activeOn d = true ∨ x.queuedOn d = true →
      (o.endRequests d st).tag u = o.failed st u := fun u x hx hon => by
    rw [htag, if_pos ((State.mem_requestsOn hstruck).mpr (by rw [htags, hx]; exact hon))]
  refine ⟨?_, ?_, fun t r p ph marked ht hr => ?_, fun t r p ht hr => ?_, fun t hqueued hactive => ?_,
    ⟨o.list, ?_, ?_⟩, hstall hlists.2, ?_, ?_, ?_, fun b => ?_, ?_⟩
  · rw [State.stopSpindle, State.drive_setSpindle, State.endRequests_drive, hdrive]
    rfl
  · rw [State.stopSpindle, State.drive_setSpindle_other, State.endRequests_drive_other, hother]
  · refine (hfailed t _ ht (.inl (by simpa [TagState.activeOn] using hr))).trans ?_
    rw [State.failed_active ((htags t).trans ht), hr, hdrive]
  · refine (hfailed t _ ht (.inr (by simpa [TagState.queuedOn] using hr))).trans ?_
    rw [State.failed_queued ((htags t).trans ht), hr, hdrive]
  · refine (htag t).trans ?_
    rw [if_neg, htags]
    rw [State.mem_requestsOn hstruck, htags, hqueued, hactive]
    simp
  · rw [hlists.1]
    exact State.raiseEvent_eventAdded ev hone
  · rw [← hrequests]
    exact hlist
  · have hpass := hwork.pass
    simp only [← hpass, ← hport, ← hbus] at hcut
    exact hcut
  · exact (congrArg Bus.reservation hbus).trans hreservation
  · exact (congrArg Bus.alternation hbus).trans halternation
  · have hbuffer : ((o.endRequests d st).stopSpindle d media).buffer b = o.buffer b :=
      State.buffer_congr hwork.buffers b
    rw [hbuffer]
    exact hcontents b
  · have hends := hwork.frame
    rw [State.stopSpindle, State.setSpindle_frame]
    generalize o.endRequests d st = e at hends ⊢
    rw [hends, hframe]

end DriveFails

end Sys2Proof.Machine

/-! ## Drives under the moves

What one move can do to a drive, and the records, spindles and counters that every step keeps (R47, R48, R53,
R60, R69, R70). -/

namespace Sys2Proof.Machine

/-- What a move can do to a drive; what `allowed` guards is done only to a drive within the scope. -/
inductive DriveMove (allowed : Prop) (u : DriveUnit) : DriveUnit → Prop
  | heads (x : Head) : DriveMove allowed u { u with head := x }
  | counts (c : Stats) (h : u.stats.inBounds = true → c.inBounds = true) :
      DriveMove allowed u { u with stats := c }
  | works (q : List TagNo) (w : Direction) (x : Head) (ha : allowed) :
      DriveMove allowed u { u with queue := q, sweep := w, head := x }
  | spins (x : Spindle) (ha : allowed) (h : SpindleMove (u.record.getD .absent) u.spindle x) :
      DriveMove allowed u { u with spindle := x }
  | redefined (g : DriveRecord) (ha : allowed) (hg : g.inRange = true) :
      DriveMove allowed u
        { record := some g, stats := .zero, queue := u.queue, sweep := .inward,
          spindle := .still .stopped .unknown, head := .lost }

theorem DriveMove.same {a : Prop} {u v : DriveUnit} (h : v = u) : DriveMove a u v := by
  rw [h]
  exact .heads u.head

section Lifts

variable {K : Scope} {s t : State} {d : Drive}

/-- A change of one drive within its scope, the other drive as it is. -/
theorem DriveMove.at_drive {a : Drive → Prop} (hd : DriveMove (a d) (s.drive d) (t.drive d))
    (ho : t.drive d.other = s.drive d.other) (e : Drive) : DriveMove (a e) (s.drive e) (t.drive e) := by
  rcases Drive.eq_or_other d e with rfl | rfl
  · exact hd
  · exact .same ho

theorem Move.drive (hm : Move K s t) : ∀ e, DriveMove (K.drives e) (s.drive e) (t.drive e) := by
  have hunits : t.units = s.units → ∀ e, DriveMove (K.drives e) (s.drive e) (t.drive e) :=
    fun h e => .same (State.drive_congr h e)
  cases hm with
  | event d ev => exact fun e => .same (State.raiseEvent_drive ev e)
  | notice e kind tag =>
    refine hunits ?_
    rw [(State.addNotice_spec s e kind tag).rest]
  | reopens h hK =>
    intro e
    have hdrive := State.endSession_drive ({ s with session := nextSession s.session } : State) e
    generalize State.endSession _ = u at hdrive ⊢
    have hu : (u.announce .opened).drive e = u.drive e := rfl
    rw [hu, hdrive]
    exact .works [] (s.drive e).sweep _ (hK e)
  | spindle d x hK h =>
    refine DriveMove.at_drive ?_ (State.drive_setSpindle_other s d x)
    rw [State.drive_setSpindle]
    exact .spins x hK h
  | head d x =>
    refine DriveMove.at_drive ?_ (State.drive_setHead_other s d x)
    rw [State.drive_setHead]
    exact .heads x
  | stats d x h =>
    refine DriveMove.at_drive ?_ (State.drive_setStats_other s d x)
    rw [State.drive_setStats]
    exact .counts x h
  | redefines d g hK hidle hg =>
    refine DriveMove.at_drive ?_ (State.drive_setDrive_other s d _)
    rw [State.redefine, State.drive_setDrive]
    exact .redefined g hK hg
  | decides d hK =>
    refine DriveMove.at_drive ?_ State.decide1_drive_other
    rcases hc : s.choose d with _ | c
    · exact .same (by simp only [State.decide1, hc])
    · obtain ⟨x, hx⟩ := State.decide1_drive hc
      rw [hx]
      exact .works _ _ x hK
  | overtakes d new act newTag actTag n passed m hK hactive hnew hact =>
    refine DriveMove.at_drive ?_ State.overtake_drive_other
    rw [State.overtake_drive (by rw [hact]; rfl)]
    exact .works _ (s.drive d).sweep (s.drive d).head hK
  | joins d u w hK =>
    have hbase : ∀ e, (({ s with nextStamp := s.nextStamp + 1 } : State).setTag u
        (.queued ⟨w, d, s.session, s.nextStamp, 0⟩ 0)).drive e = s.drive e := fun _ => rfl
    refine DriveMove.at_drive (d := d) ?_ ?_
    · rw [State.joinQueue, State.drive_setQueue, hbase]
      exact .works _ (s.drive d).sweep (s.drive d).head hK
    · rw [State.joinQueue, State.drive_setQueue_other, hbase]
  | quits u r st hK =>
    have hbase : ∀ e, ((s.leaveQueue r.drive u).finish u r st).drive e = (s.leaveQueue r.drive u).drive e :=
      fun _ => rfl
    refine DriveMove.at_drive (d := r.drive) ?_ ?_
    · rw [hbase, State.leaveQueue, State.drive_setQueue]
      exact .works _ (s.drive r.drive).sweep (s.drive r.drive).head hK
    · rw [hbase, State.leaveQueue, State.drive_setQueue_other]
  | fails d st hK =>
    refine DriveMove.at_drive ?_ (State.endRequests_drive_other s d st)
    rw [State.endRequests_drive]
    exact .works [] (s.drive d).sweep (s.drive d).head hK
  | phase u ph => exact hunits (by rw [State.setPhase_eq])
  | request u f => exact hunits (by rw [State.onActive_eq])
  | releases u => exact hunits (by rw [State.freeTag_frame])
  | withdraws u =>
    refine hunits ?_
    rw [State.freeTag_frame]
    rfl
  | lands d x =>
    have hbase : ∀ e, s.releaseBus.drive e = s.drive e := fun _ => rfl
    refine DriveMove.at_drive (d := d) ?_ ?_
    · rw [State.drive_setHead, hbase]
      exact .heads x
    · rw [State.drive_setHead_other, hbase]
  | grants =>
    refine hunits ?_
    rw [State.beginPass_eq, State.grantPass_frame]
  | refuses =>
    refine hunits ?_
    rw [State.grantPass_frame]
    rfl
  | passEnds =>
    refine hunits ?_
    rw [State.dropPass_frame]
    rfl
  | _ => exact hunits rfl

end Lifts

/-! ### Other drives -/

/-- Settles O47: outside its scope a move leaves a drive's record, spindle, queue and sweep alone. -/
theorem otherSpindleUntouched : Obligations.OtherSpindleUntouched := by
  intro s t lv d interval c hc hexec
  let K : Scope := ⟨fun e => e = d, fun _ _ => False⟩
  have hleads : s.Leads K t := by
    have hK : K.drives d := rfl
    simp only [List.mem_cons, List.not_mem_nil, or_false] at hc
    rcases hc with rfl | rfl | rfl | rfl | rfl | rfl | rfl
    · exact State.unlessHeld_leads (fun _ => .facing (State.indexPulse_leads hK interval)) hexec
    · exact State.unlessHeld_leads (fun _ => .facing (State.sectorPulse_leads hK)) hexec
    · exact State.unlessHeld_leads (fun _ => .facing (State.spinUpExpired_leads hK)) hexec
    · exact State.unlessHeld_leads (fun _ => .facing (State.watchdogExpired_leads hK)) hexec
    · exact State.unlessHeld_leads (fun _ => State.runOnExpired_leads hK) hexec
    · exact State.unlessHeld_leads (fun _ => .facing (State.stepExpired_leads hK)) hexec
    · exact State.unlessHeld_leads (fun _ => .facing (State.settleExpired_leads hK)) hexec
  have hother : ¬ K.drives d.other := Drive.other_ne d
  obtain ⟨q, hq, hend⟩ := hleads
  have hkept : (q.drive d.other).record = (s.drive d.other).record
      ∧ (q.drive d.other).spindle = (s.drive d.other).spindle
      ∧ (q.drive d.other).queue = (s.drive d.other).queue
      ∧ (q.drive d.other).sweep = (s.drive d.other).sweep := by
    refine hq.keeps (P := fun q => (q.drive d.other).record = (s.drive d.other).record
      ∧ (q.drive d.other).spindle = (s.drive d.other).spindle
      ∧ (q.drive d.other).queue = (s.drive d.other).queue
      ∧ (q.drive d.other).sweep = (s.drive d.other).sweep) (fun a b hm ha => ?_) ⟨rfl, rfl, rfl, rfl⟩
    have hdrive := hm.drive d.other
    generalize b.drive d.other = u at hdrive
    cases hdrive with
    | heads | counts => exact ha
    | works _ _ _ h | spins _ h | redefined _ h => exact absurd h hother
  rcases hend with rfl | ⟨rfl, -⟩
  · have hunits : q.beginFrame.drive d.other = q.drive d.other :=
      State.drive_congr (by rw [State.beginFrame_eq]) d.other
    rw [hunits]
    exact hkept
  · exact hkept

/-! ### Records, spindles and counters -/

/-- One drive's record in its ranges, spindle in order and counters within 65535. -/
structure DriveUnit.Ok (u : DriveUnit) : Prop where
  undefined : u.record = none → u.spindle.condition = .undefined
  ranges : ∀ g, u.record = some g → g.inRange = true
  spindle : u.spindle.inOrder (u.record.getD .absent).sectors = true
  stats : u.stats.inBounds = true

theorem State.drivesOk_iff {s : State} : s.DrivesOk ↔ ∀ d, (s.drive d).Ok := by
  constructor
  · intro h d
    have hrecord := h.record d
    refine ⟨fun hnone => ?_, fun g hg => ?_, h.spindle d, h.stats d⟩
    · rw [hnone] at hrecord
      exact hrecord
    · rw [hg] at hrecord
      exact hrecord
  · intro h
    refine ⟨fun d => ?_, fun d => (h d).spindle, fun d => (h d).stats⟩
    cases hrecord : (s.drive d).record with
    | none => exact (h d).undefined hrecord
    | some g => exact (h d).ranges g hrecord

section SpindleMoves

variable {x y : Spindle} {n : Nat}

theorem Spindle.inOrder_undefined (h : x.condition = .undefined) (hx : x.inOrder n = true) :
    x = .still .undefined .unknown := by
  simpa [Spindle.inOrder, h] using hx

theorem Spindle.inOrder_starting (h : x.condition = .starting) : x.inOrder n = true ↔
    x.motor = true ∧ x.media = .unknown ∧ x.position = .unknown ∧ x.period = none ∧ x.revCount = none
      ∧ x.measure.isSome = true ∧ x.spinUpTimer.isSome = true ∧ x.watchdog = none
      ∧ x.runOnTimer = none := by
  simp [Spindle.inOrder, h, and_assoc]

theorem Spindle.inOrder_turning (h : x.condition = .turning) : x.inOrder n = true ↔
    x.motor = true ∧ x.media = .present ∧ x.counted n = true ∧ x.period.isSome = true
      ∧ x.measure = none ∧ x.spinUpTimer = none ∧ x.watchdog.isSome = true := by
  simp [Spindle.inOrder, h, and_assoc]

theorem Spindle.counted_sector {k : Nat} (h : x.position = .sector k) :
    x.counted n = true ↔ x.revCount = some (k + 1) ∧ k < n := by
  simp [Spindle.counted, h]

theorem Spindle.counted_index (h : x.position = .index) : x.counted n = true ↔ x.revCount = some 0 := by
  simp [Spindle.counted, h]

/-- Each move of a spindle leaves its fields as its condition has them (R60 to R79). -/
theorem SpindleMove.inOrder {g : DriveRecord} (hm : SpindleMove g x y) (hsectors : 0 < g.sectors)
    (h : x.inOrder g.sectors = true) : y.inOrder g.sectors = true := by
  cases hm with
  | starts => rfl
  | stops m => cases m <;> rfl
  | turns => rfl
  | runsOn o hc =>
    exact (Spindle.inOrder_turning (x := { x with runOnTimer := o }) hc).mpr
      ((Spindle.inOrder_turning hc).mp h)
  | measures m hc =>
    obtain ⟨h1, h2, h3, h4, h5, -, h6, h7, h8⟩ := (Spindle.inOrder_starting hc).mp h
    exact (Spindle.inOrder_starting (x := { x with measure := some m }) hc).mpr
      ⟨h1, h2, h3, h4, h5, rfl, h6, h7, h8⟩
  | index hc =>
    obtain ⟨h1, h2, -, h3, h4, h5, -⟩ := (Spindle.inOrder_turning hc).mp h
    exact (Spindle.inOrder_turning (x := x.atIndex) hc).mpr
      ⟨h1, h2, (Spindle.counted_index rfl).mpr rfl, h3, h4, h5, rfl⟩
  | sector k hc hk =>
    obtain ⟨h1, h2, hcounted, h3, h4, h5, h6⟩ := (Spindle.inOrder_turning hc).mp h
    refine (Spindle.inOrder_turning (x := x.atSector k) hc).mpr
      ⟨h1, h2, (Spindle.counted_sector rfl).mpr ?_, h3, h4, h5, h6⟩
    cases hpos : x.position with
    | unknown =>
      rw [hpos] at hk
      cases hk
    | index =>
      rw [hpos] at hk
      cases hk
      have hcount := (Spindle.counted_index hpos).mp hcounted
      exact ⟨by simp [Spindle.atSector, hcount], hsectors⟩
    | sector j =>
      obtain ⟨hcount, -⟩ := (Spindle.counted_sector hpos).mp hcounted
      rw [hpos, nextSector] at hk
      split at hk
      · next hj =>
        cases hk
        exact ⟨by simp [Spindle.atSector, hcount], hj⟩
      · cases hk

/-- Only a drive with a record has a spindle that moves (R60). -/
theorem SpindleMove.ne_undefined {g : DriveRecord} (hm : SpindleMove g x y) :
    x ≠ .still .undefined .unknown := by
  intro hx
  cases hm with
  | stops m h => exact h hx
  | starts h | runsOn o h | measures m h | turns period h | index h | sector k h =>
    rw [hx] at h
    cases h

end SpindleMoves

theorem DriveRecord.sectors_pos {g : DriveRecord} (h : g.inRange = true) : 0 < g.sectors := by
  simp only [DriveRecord.inRange, Bool.and_eq_true, decide_eq_true_eq] at h
  omega

theorem DriveMove.ok {a : Prop} {u v : DriveUnit} (hm : DriveMove a u v) (h : u.Ok) : v.Ok := by
  cases hm with
  | heads | works => exact ⟨h.undefined, h.ranges, h.spindle, h.stats⟩
  | counts c hc => exact ⟨h.undefined, h.ranges, h.spindle, hc h.stats⟩
  | redefined g ha hg =>
    exact ⟨nofun, fun x hx => by cases hx; exact hg, rfl, rfl⟩
  | spins x ha hx =>
    rcases Option.eq_none_or_eq_some u.record with hrecord | ⟨g, hrecord⟩
    · exact absurd (Spindle.inOrder_undefined (h.undefined hrecord) h.spindle) hx.ne_undefined
    · have hsectors : 0 < (u.record.getD .absent).sectors := by
        rw [hrecord]
        exact DriveRecord.sectors_pos (h.ranges g hrecord)
      refine ⟨fun hnone => absurd (hrecord.symm.trans hnone) nofun, h.ranges, ?_, h.stats⟩
      exact hx.inOrder hsectors h.spindle

theorem DriveUnit.fresh_ok : DriveUnit.fresh.Ok := ⟨fun _ => rfl, nofun, rfl, rfl⟩

theorem DriveUnit.Ok.abandon {u : DriveUnit} (h : u.Ok) : u.abandon.Ok :=
  ⟨fun _ => rfl, h.ranges, rfl, h.stats⟩

theorem drives_kept : Kept fun s => ∀ d, (s.drive d).Ok where
  moves := fun _ _ _ hm h d => (hm.drive d).ok (h d)
  sends := fun s e rest _ _ _ _ h => by
    rw [State.send_frame]
    exact h
  ends := fun s f _ _ h => by
    rw [State.frameOver_frame]
    exact h
  hold := fun _ _ h => h
  resets := fun s _ h d => by cases d with
    | d0 => exact (h .d0).abandon
    | d1 => exact (h .d1).abandon
  leaves := fun _ _ _ _ d => by cases d <;> exact DriveUnit.fresh_ok
  pending := fun _ _ h => h

/-- Settles O48: each move of a drive keeps its record in range and its spindle fields in order. -/
theorem drivesAreKept : Obligations.DrivesAreKept := fun _ _ h hstep =>
  State.drivesOk_iff.mpr (drives_kept.step (State.drivesOk_iff.mp h) hstep)

end Sys2Proof.Machine

/-! ## The queues

Every move keeps the queues in the order of their stamps, with one ACTIVE request a drive and the passed counts
within the age limit (R1, R27, R30, R40, R43). -/

namespace Sys2Proof.Machine

/-! ### Tags that change off the queues -/

/-- A tag's record changes without touching a queue or making a request ACTIVE. -/
structure TagState.Tame (x y : TagState) : Prop where
  queued : ∀ d, y.queuedOn d = x.queuedOn d
  active : ∀ d, y.activeOn d = true → x.activeOn d = true
  stamp : ∀ r, y.request? = some r → ∃ q, x.request? = some q ∧ r.stamp = q.stamp
  passed : y.passed ≤ x.passed

theorem TagState.Tame.refl (x : TagState) : x.Tame x :=
  ⟨fun _ => rfl, fun _ => id, fun r h => ⟨r, h, rfl⟩, le_refl _⟩

theorem TagState.Tame.follows {x y : TagState} (h : x.Tame y) (limit : Drive → Nat) (next : Nat) :
    x.Follows limit next y where
  queued := h.queued
  stamp := fun r hr => .inl (h.stamp r hr)
  passed := fun d hd => .inr ⟨hd.imp (fun hq => h.queued d ▸ hq) (h.active d), h.passed⟩

/-- A tag that is not QUEUED becomes FREE. -/
theorem TagState.Tame.free {x : TagState} (h : ∀ d, x.queuedOn d = false) : x.Tame .free where
  queued := fun d => (h d).symm
  active := fun _ hd => Bool.noConfusion hd
  stamp := fun _ hr => by cases hr
  passed := Nat.zero_le x.passed

/-- A tag that is not QUEUED gets a record of its request that is neither QUEUED nor ACTIVE. -/
theorem TagState.Tame.rest {x y : TagState} (hx : ∀ d, x.queuedOn d = false) {r : Request}
    (hr : x.request? = some r) (hy : y.request? = some r) (hquiet : y.inWork = false) : x.Tame y := by
  cases y with
  | queued | active => cases hquiet
  | free => cases hy
  | done | sending | held =>
    exact ⟨fun d => (hx d).symm, nofun, fun q hq => ⟨q, by rw [hr, ← hy, hq], rfl⟩, Nat.zero_le _⟩

theorem TagState.Tame.phase {r q : Request} {p : Nat} {ph ph' : Phase} {m m' : Bool}
    (hdrive : q.drive = r.drive) (hstamp : q.stamp = r.stamp) :
    (TagState.active r p ph m).Tame (.active q p ph' m') where
  queued := fun _ => rfl
  active := fun d hd => by
    have hq : (q.drive == d) = true := hd
    rwa [hdrive] at hq
  stamp := fun x hx => by
    cases hx
    exact ⟨r, rfl, hstamp⟩
  passed := le_refl _

section Tame

variable {s t : State}

theorem State.tame_setTag {c : TagNo} {x : TagState} (h : (s.tag c).Tame x) (u : TagNo) :
    (s.tag u).Tame ((s.setTag c x).tag u) := by
  by_cases hu : u = c
  · rw [hu, State.tag_setTag]
    exact h
  · rw [State.tag_setTag_ne s hu]
    exact .refl _

theorem State.tame_setPhase (c : TagNo) (ph : Phase) (u : TagNo) :
    (s.tag u).Tame ((s.setPhase c ph).tag u) := by
  unfold State.setPhase
  split
  · next hc => exact State.tame_setTag (hc ▸ .phase rfl rfl) u
  · exact .refl _

theorem State.tame_onActive {c : TagNo} {f : Request → Request}
    (h : ∀ r, (f r).drive = r.drive ∧ (f r).stamp = r.stamp) (u : TagNo) :
    (s.tag u).Tame ((s.onActive c f).tag u) := by
  unfold State.onActive
  split
  · next r _ _ _ hc => exact State.tame_setTag (hc ▸ .phase (h r).1 (h r).2) u
  · exact .refl _

theorem State.tame_freeTag {c : TagNo} (h : ∀ d, (s.tag c).queuedOn d = false) (u : TagNo) :
    (s.tag u).Tame ((s.freeTag c).tag u) := by
  obtain ⟨hself, hothers, -, -⟩ := State.freeTag_spec s c
  by_cases hu : u = c
  · rw [hu, hself]
    exact .free h
  · rw [hothers u hu]
    exact .refl _

theorem State.QueueOk.tame (h : s.QueueOk) (hqueue : ∀ d, (t.drive d).queue = (s.drive d).queue)
    (hlimit : ∀ d, t.limits d = s.limits d) (hstamp : s.nextStamp ≤ t.nextStamp)
    (htag : ∀ u, (s.tag u).Tame (t.tag u)) : t.QueueOk :=
  h.congr hstamp hqueue hlimit (fun u => (htag u).follows _ _) fun u => (htag u).active

end Tame

/-! ### Tags that leave and join a queue -/

section Queue

variable {s t : State} (h : s.QueueOk) (hstamp : s.nextStamp ≤ t.nextStamp) {c : TagNo}
  (hlimit : ∀ e, t.limits e = s.limits e)
  (hothers : ∀ u, u ≠ c → (s.tag u).Follows s.limits t.nextStamp (t.tag u))
  (hsingle : ∀ e u v, (t.tag u).activeOn e = true → (t.tag v).activeOn e = true → u = v)
include h hstamp hlimit hothers hsingle

/-- A tag has left its queue. -/
theorem State.QueueOk.dequeue
    (hqueue : ∀ e, (t.drive e).queue = (s.drive e).queue.filter fun u => u != c)
    (hself : ∀ e, (t.tag c).queuedOn e = false)
    (hrequest : ∀ r, (t.tag c).request? = some r → r.stamp < t.nextStamp)
    (haged : ∀ e, (t.tag c).activeOn e = true → (t.tag c).passed ≤ s.limits e) : t.QueueOk where
  member := fun e u => by
    rw [hqueue, List.mem_filter, bne_iff_ne]
    by_cases hu : u = c
    · rw [hu, hself]
      simp
    · rw [(hothers u hu).queued, ← h.member]
      simp [hu]
  nodup := fun e => by
    rw [hqueue]
    exact (h.nodup e).filter _
  order := fun e => by
    have hsame : ∀ u ∈ (s.drive e).queue.filter (fun u => u != c), t.stampOf u = s.stampOf u :=
      fun u hu => by
        obtain ⟨hmem, hu⟩ := List.mem_filter.mp hu
        exact State.stampOf_follows (hothers u (by simpa using hu)) ((h.member e u).mp hmem)
    rw [hqueue]
    exact ((h.order e).filter _).imp_of_mem fun hu hv hle => by rwa [hsame _ hu, hsame _ hv]
  stamps := fun u r hr => by
    by_cases hu : u = c
    · subst hu
      exact hrequest r hr
    · exact h.stamp_follows hstamp (hothers u hu) hr
  single := hsingle
  aged := fun e u hu => by
    refine le_of_le_of_eq ?_ (hlimit e).symm
    by_cases huc : u = c
    · subst huc
      rw [hself] at hu
      exact haged e (hu.resolve_left nofun)
    · exact h.aged_follows (hothers u huc) hu

/-- A tag has joined a queue at the place of its stamp. -/
theorem State.QueueOk.enqueue {d : Drive} {older newer : List TagNo} {r : Request} {p : Nat}
    (hbefore : (s.drive d).queue = older ++ newer) (hafter : (t.drive d).queue = older ++ c :: newer)
    (hother : (t.drive d.other).queue = (s.drive d.other).queue)
    (hfree : ∀ e, (s.tag c).queuedOn e = false) (hc : t.tag c = .queued r p) (hdrive : r.drive = d)
    (hnew : r.stamp < t.nextStamp) (hp : p ≤ s.limits d) (holder : ∀ u ∈ older, s.stampOf u ≤ r.stamp)
    (hnewer : ∀ u ∈ newer, r.stamp ≤ s.stampOf u) : t.QueueOk := by
  have hon : ∀ e, (t.tag c).queuedOn e = (r.drive == e) := fun e => by rw [hc]; rfl
  have hnot : c ∉ older ++ newer := fun hmem => by
    have := (h.member d c).mp (hbefore ▸ hmem)
    rw [hfree] at this
    cases this
  have hperm : (older ++ c :: newer).Perm (c :: (s.drive d).queue) := hbefore ▸ List.perm_middle
  have hstampOf : t.stampOf c = r.stamp := by rw [State.stampOf, hc]; rfl
  have hsame : ∀ e, ∀ u ∈ (s.drive e).queue, t.stampOf u = s.stampOf u := fun e u hu => by
    have hq := (h.member e u).mp hu
    refine State.stampOf_follows (hothers u fun huc => ?_) hq
    rw [huc, hfree] at hq
    cases hq
  have hmember : ∀ e u, u ≠ c → (u ∈ (s.drive e).queue ↔ (t.tag u).queuedOn e = true) := fun e u hu => by
    rw [(hothers u hu).queued, h.member]
  exact {
    member := fun e u => by
      rcases Drive.eq_or_other d e with rfl | rfl
      · rw [hafter, hperm.mem_iff, List.mem_cons]
        by_cases hu : u = c
        · simp [hu, hon, hdrive]
        · rw [hmember _ u hu]
          simp [hu]
      · rw [hother]
        by_cases hu : u = c
        · rw [hu, h.member, hfree, hon, hdrive]
          simp
        · exact hmember _ u hu
    nodup := fun e => by
      rcases Drive.eq_or_other d e with rfl | rfl
      · rw [hafter, hperm.nodup_iff, List.nodup_cons]
        exact ⟨hbefore ▸ hnot, h.nodup _⟩
      · rw [hother]
        exact h.nodup _
    order := fun e => by
      rcases Drive.eq_or_other d e with rfl | rfl
      · have hold := h.order e
        have hmem : ∀ u, u ∈ older ∨ u ∈ newer → t.stampOf u = s.stampOf u := fun u hu =>
          hsame e u (by rw [hbefore]; exact List.mem_append.mpr hu)
        rw [hbefore, List.pairwise_append] at hold
        obtain ⟨hleft, hright, hcross⟩ := hold
        rw [hafter, List.pairwise_append, List.pairwise_cons]
        refine ⟨hleft.imp_of_mem fun hu hv hle => ?_, ⟨fun v hv => ?_, hright.imp_of_mem fun hu hv hle => ?_⟩,
          fun u hu v hv => ?_⟩
        · rwa [hmem _ (.inl hu), hmem _ (.inl hv)]
        · rw [hstampOf, hmem v (.inr hv)]
          exact hnewer v hv
        · rwa [hmem _ (.inr hu), hmem _ (.inr hv)]
        · rw [hmem u (.inl hu)]
          rcases List.mem_cons.mp hv with rfl | hv
          · rw [hstampOf]
            exact holder u hu
          · rw [hmem v (.inr hv)]
            exact hcross u hu v hv
      · rw [hother]
        exact (h.order _).imp_of_mem fun hu hv hle => by rwa [hsame _ _ hu, hsame _ _ hv]
    stamps := fun u q hq => by
      by_cases hu : u = c
      · rw [hu, hc] at hq
        cases hq
        exact hnew
      · exact h.stamp_follows hstamp (hothers u hu) hq
    single := hsingle
    aged := fun e u hu => by
      refine le_of_le_of_eq ?_ (hlimit e).symm
      by_cases huc : u = c
      · rw [huc] at hu ⊢
        rw [hon, hc] at hu
        have he : e = d := by
          rcases hu with hu | hu
          · rw [← hdrive]
            exact (beq_iff_eq.mp hu).symm
          · cases hu
        rw [hc, he]
        exact hp
      · exact h.aged_follows (hothers u huc) hu }

end Queue

/-! ### Each move of the queues -/

section Moves

variable {s t : State} {d : Drive}

/-- A field that a change of one drive leaves alone is left alone in both. -/
theorem State.drive_setDrive_field {α : Type} (f : DriveUnit → α) {u : DriveUnit}
    (hu : f u = f (s.drive d)) (e : Drive) : f ((s.setDrive d u).drive e) = f (s.drive e) := by
  rcases Drive.eq_or_other d e with rfl | rfl
  · rw [State.drive_setDrive, hu]
  · rw [State.drive_setDrive_other]

theorem State.limits_congr (h : ∀ e, (t.drive e).record = (s.drive e).record) (e : Drive) :
    t.limits e = s.limits e := by
  rw [State.limits, State.limits, State.geometry, State.geometry, h]

/-- A change of a drive's spindle, head or counters. -/
theorem State.QueueOk.setDrive (h : s.QueueOk) {u : DriveUnit} (hqueue : u.queue = (s.drive d).queue)
    (hrecord : u.record = (s.drive d).record) : (s.setDrive d u).QueueOk :=
  h.tame (State.drive_setDrive_field DriveUnit.queue hqueue)
    (State.limits_congr (State.drive_setDrive_field DriveUnit.record hrecord)) (le_refl _) fun _ => .refl _

/-- A change that leaves drives and stamps alone, and tames the tags. -/
theorem State.QueueOk.of_units (h : s.QueueOk) (hunits : t.units = s.units)
    (hstamp : t.nextStamp = s.nextStamp) (htag : ∀ u, (s.tag u).Tame (t.tag u)) : t.QueueOk :=
  h.tame (fun e => by rw [State.drive_congr hunits])
    (State.limits_congr fun e => by rw [State.drive_congr hunits]) hstamp.ge htag

theorem State.QueueOk.of_tags (h : s.QueueOk) (hunits : t.units = s.units)
    (hstamp : t.nextStamp = s.nextStamp) (htags : t.tags = s.tags) : t.QueueOk :=
  h.of_units hunits hstamp fun u => by
    rw [State.tag_congr htags]
    exact .refl _

/-- No request is QUEUED or ACTIVE. -/
theorem State.QueueOk.of_empty (hqueue : ∀ e, (t.drive e).queue = [])
    (hwork : ∀ u, (t.tag u).inWork = false)
    (hstamp : ∀ u r, (t.tag u).request? = some r → r.stamp < t.nextStamp) : t.QueueOk := by
  have hoff : ∀ u e, (t.tag u).queuedOn e = false ∧ (t.tag u).activeOn e = false := fun u e => by
    have hu := hwork u
    cases hx : t.tag u with
    | queued | active =>
      rw [hx] at hu
      cases hu
    | _ => exact ⟨rfl, rfl⟩
  exact {
    member := fun e u => by
      rw [hqueue, (hoff u e).1]
      simp
    nodup := fun e => by rw [hqueue]; exact List.nodup_nil
    order := fun e => by rw [hqueue]; exact List.Pairwise.nil
    stamps := hstamp
    single := fun e u v hu => by rw [(hoff u e).2] at hu; cases hu
    aged := fun e u hu => by rw [(hoff u e).1, (hoff u e).2] at hu; cases hu <;> contradiction }

theorem TagState.queuedOn_inj {x : TagState} {d e : Drive} (hd : x.queuedOn d = true)
    (he : x.queuedOn e = true) : d = e := by
  cases x with
  | queued r p => exact (beq_iff_eq.mp hd).symm.trans (beq_iff_eq.mp he)
  | _ => cases hd

/-- A tag that is not in a drive's queue can be filtered from it. -/
theorem State.QueueOk.filter_other (h : s.QueueOk) {c : TagNo} (hc : (s.tag c).queuedOn d = true) :
    (s.drive d.other).queue.filter (fun u => u != c) = (s.drive d.other).queue := by
  rw [List.filter_eq_self]
  intro u hu
  rw [bne_iff_ne]
  rintro rfl
  exact Drive.other_ne d (TagState.queuedOn_inj ((h.member _ _).mp hu) hc)

/-- A QUEUED request ends (R16). -/
theorem State.QueueOk.quits (h : s.QueueOk) {c : TagNo} {r : Request} {p : Nat} (hc : s.tag c = .queued r p)
    (st : Status) : ((s.leaveQueue r.drive c).finish c r st).QueueOk := by
  obtain ⟨hself, hthers, -, -, -⟩ := State.finish_spec (s.leaveQueue r.drive c) c r st
  have htag : ∀ u, u ≠ c → ((s.leaveQueue r.drive c).finish c r st).tag u = s.tag u := hthers
  have hon : (s.tag c).queuedOn r.drive = true := by rw [hc]; exact beq_self_eq_true _
  have hactive : ∀ e u, (((s.leaveQueue r.drive c).finish c r st).tag u).activeOn e = true →
      (s.tag u).activeOn e = true := fun e u hu => by
    by_cases huc : u = c
    · rw [huc, hself] at hu
      cases hu
    · rwa [htag u huc] at hu
  refine h.dequeue (c := c) (le_refl _) ?_ (fun u hu => ?_)
    (fun e u v hu hv => h.single e u v (hactive e u hu) (hactive e v hv)) (fun e => ?_) (fun e => ?_)
    (fun x hx => ?_) fun e he => ?_
  · exact State.limits_congr (State.drive_setDrive_field DriveUnit.record rfl)
  · rw [htag u hu]
    exact .refl _
  · rw [State.finish_drive, State.leaveQueue]
    rcases Drive.eq_or_other r.drive e with rfl | rfl
    · rw [State.drive_setQueue]
    · rw [State.drive_setQueue_other, h.filter_other hon]
  · rw [hself]
    rfl
  · rw [hself] at hx
    cases hx
    exact h.stamps c r (by rw [hc]; rfl)
  · rw [hself] at he
    cases he

/-- A request of a queued kind joins the tail of its queue (R14, R27). -/
theorem State.QueueOk.joins (h : s.QueueOk) {c : TagNo} (w : Work) (hc : s.tag c = .free) :
    (s.joinQueue d c w).QueueOk := by
  have hself : (s.joinQueue d c w).tag c = .queued ⟨w, d, s.session, s.nextStamp, 0⟩ 0 :=
    State.tag_setTag _ c _
  have htag : ∀ u, u ≠ c → (s.joinQueue d c w).tag u = s.tag u := fun u hu => State.tag_setTag_ne _ hu _
  have hactive : ∀ e u, ((s.joinQueue d c w).tag u).activeOn e = true → (s.tag u).activeOn e = true :=
    fun e u hu => by
      by_cases huc : u = c
      · rw [huc, hself] at hu
        cases hu
      · rwa [htag u huc] at hu
  refine h.enqueue (c := c) (d := d) (older := (s.drive d).queue) (newer := [])
    (Nat.le_succ _) ?_ (fun u hu => ?_)
    (fun e u v hu hv => h.single e u v (hactive e u hu) (hactive e v hv)) (List.append_nil _).symm ?_ ?_
    (fun e => by rw [hc]; rfl) hself rfl (Nat.lt_succ_self _) (Nat.zero_le _) (fun u hu => ?_) nofun
  · exact State.limits_congr (State.drive_setDrive_field DriveUnit.record rfl)
  · rw [htag u hu]
    exact .refl _
  · rw [State.joinQueue, State.drive_setQueue]
  · rw [State.joinQueue, State.drive_setQueue_other]
    rfl
  · obtain ⟨r, hr, hstamp⟩ := State.stampOf_queued ((h.member d u).mp hu)
    rw [hstamp]
    exact (h.stamps u r hr).le

/-- The requests of a failed drive have ended (R74). -/
theorem State.QueueOk.fails (h : s.QueueOk) (st : Status) : (s.endRequests d st).QueueOk := by
  obtain ⟨htag, -, -⟩ := State.endRequests_spec (d := d) h st
  have hnext : (s.endRequests d st).nextStamp = s.nextStamp :=
    (State.endRequests_driveWork s d st).work.nextStamp
  have hcases : ∀ u, ((s.endRequests d st).tag u = s.tag u ∧ (s.tag u).queuedOn d = false
      ∧ (s.tag u).activeOn d = false)
      ∨ ∃ r x, (s.endRequests d st).tag u = .done r x ∧ (s.tag u).request? = some r
        ∧ ∀ e, (s.tag u).queuedOn e = true → e = d := fun u => by
    rw [htag]
    by_cases hu : u ∈ s.requestsOn d
    · rw [if_pos hu]
      have hon := (State.mem_requestsOn h).mp hu
      cases hx : s.tag u with
      | queued r p =>
        rw [hx] at hon
        exact .inr ⟨r, _, State.failed_queued hx, rfl, fun e he =>
          TagState.queuedOn_inj he (hon.resolve_left nofun)⟩
      | active r p ph m => exact .inr ⟨r, _, State.failed_active hx, rfl, nofun⟩
      | _ =>
        rw [hx] at hon
        rcases hon with hon | hon <;> cases hon
    · rw [if_neg hu]
      rw [State.mem_requestsOn h, not_or, Bool.not_eq_true, Bool.not_eq_true] at hu
      exact .inl ⟨rfl, hu.2, hu.1⟩
  have hqueue : ∀ e, ((s.endRequests d st).drive e).queue = if e = d then [] else (s.drive e).queue := by
    intro e
    rcases Drive.eq_or_other d e with rfl | rfl
    · rw [State.endRequests_drive, if_pos rfl]
    · rw [State.endRequests_drive_other, if_neg (Drive.other_ne d)]
  have hactive : ∀ e u, ((s.endRequests d st).tag u).activeOn e = true → (s.tag u).activeOn e = true :=
    fun e u hu => by
      rcases hcases u with ⟨hsame, -⟩ | ⟨r, x, hdone, -⟩
      · rwa [hsame] at hu
      · rw [hdone] at hu
        cases hu
  have hlimit : ∀ e, (s.endRequests d st).limits e = s.limits e := State.limits_congr fun e => by
    rcases Drive.eq_or_other d e with rfl | rfl
    · rw [State.endRequests_drive]
    · rw [State.endRequests_drive_other]
  have hsub : ∀ e, ((s.endRequests d st).drive e).queue.Sublist (s.drive e).queue := fun e => by
    rw [hqueue]
    split
    · exact List.nil_sublist _
    · exact List.Sublist.refl _
  have hmember : ∀ e u, u ∈ ((s.endRequests d st).drive e).queue ↔
      ((s.endRequests d st).tag u).queuedOn e = true := fun e u => by
    rw [hqueue]
    rcases hcases u with ⟨hsame, hqueued, -⟩ | ⟨r, x, hdone, -, honly⟩
    · rw [hsame]
      split
      · next he => rw [he, hqueued]; simp
      · exact h.member e u
    · rw [hdone]
      refine iff_of_false (fun hu => ?_) nofun
      split at hu
      · cases hu
      · next he => exact he (honly e ((h.member e u).mp hu))
  exact {
    member := hmember
    nodup := fun e => (hsub e).nodup (h.nodup e)
    order := fun e => by
      have hsame : ∀ u ∈ ((s.endRequests d st).drive e).queue, (s.endRequests d st).stampOf u = s.stampOf u :=
        fun u hu => by
          rcases hcases u with ⟨hsame, -⟩ | ⟨r, x, hdone, -⟩
          · rw [State.stampOf, State.stampOf, hsame]
          · have hq := (hmember e u).mp hu
            rw [hdone] at hq
            cases hq
      exact ((h.order e).sublist (hsub e)).imp_of_mem fun hu hv hle => by rwa [hsame _ hu, hsame _ hv]
    stamps := fun u r hr => by
      rw [hnext]
      rcases hcases u with ⟨hsame, -⟩ | ⟨q, x, hdone, hq, -⟩
      · exact h.stamps u r (hsame ▸ hr)
      · rw [hdone] at hr
        cases hr
        exact h.stamps u _ hq
    single := fun e u v hu hv => h.single e u v (hactive e u hu) (hactive e v hv)
    aged := fun e u hu => by
      rcases hcases u with ⟨hsame, -⟩ | ⟨q, x, hdone, -⟩
      · rw [hsame] at hu ⊢
        exact (h.aged e u hu).trans (hlimit e).ge
      · rw [hdone] at hu
        cases hu <;> contradiction }

theorem TagState.queued_or (x : TagState) : (∃ r p, x = .queued r p) ∨ ∀ r p, x ≠ .queued r p := by
  by_cases h : ∃ r p, x = .queued r p
  · exact .inl h
  · exact .inr fun r p hx => h ⟨r, p, hx⟩

/-- The decision of a free drive takes one member out of its queue (R39, R40). -/
theorem State.QueueOk.decides (h : s.QueueOk) (hfree : s.isFree d = true) : (s.decide1 d).QueueOk := by
  rcases hchoose : s.choose d with _ | c
  · simpa only [State.decide1, hchoose] using h
  have hon : (s.tag c.tag).queuedOn d = true := (h.member d _).mp (State.choose_mem hchoose)
  obtain ⟨r, p, hc⟩ : ∃ r p, s.tag c.tag = .queued r p := by
    cases hx : s.tag c.tag with
    | queued r p => exact ⟨r, p, rfl⟩
    | _ =>
      rw [hx] at hon
      cases hon
  have hdrive : r.drive = d := by
    rw [hc] at hon
    exact beq_iff_eq.mp hon
  have hbase : (s.departs d c).tag c.tag = .queued r p := State.departs_tag_chosen hc
  have heq : s.decide1 d = (s.departs d c).activate d c.tag := State.decide1_eq hchoose
  have hself := State.activate_tag (d := d) hbase
  rw [← heq] at hself
  have hrequest : ((s.decide1 d).tag c.tag).request? = some r
      ∧ (∀ e, ((s.decide1 d).tag c.tag).queuedOn e = false)
      ∧ ((s.decide1 d).tag c.tag).passed ≤ p
      ∧ ∀ e, ((s.decide1 d).tag c.tag).activeOn e = true → e = d := by
    rcases hself with ⟨ph, hx⟩ | ⟨x, hx, -⟩ <;> rw [hx]
    · exact ⟨rfl, fun _ => rfl, le_refl _, fun e he => (beq_iff_eq.mp he).symm.trans hdrive⟩
    · exact ⟨rfl, fun _ => rfl, Nat.zero_le _, nofun⟩
  obtain ⟨hreq, hoff, hpassed, honly⟩ := hrequest
  have htag : ∀ u, u ≠ c.tag → (s.decide1 d).tag u = (s.departs d c).tag u := fun u hu => by
    rw [heq, State.activate_tag_ne hu]
  have hnone : ∀ u, (s.tag u).activeOn d = false := ((State.isFree_iff s d).mp hfree).1
  have hactive : ∀ e u, u ≠ c.tag → ((s.decide1 d).tag u).activeOn e = true → (s.tag u).activeOn e = true := by
    intro e u hu he
    rw [htag u hu] at he
    rcases (s.tag u).queued_or with ⟨q, n, hx⟩ | hx
    · rw [State.departs_tag_queued hx] at he
      cases he
    · rwa [State.departs_tag_other hx] at he
  have hnext : (s.decide1 d).nextStamp = s.nextStamp := (State.decide1_workOnly s d).nextStamp
  obtain ⟨x, hunit⟩ := State.decide1_drive hchoose
  refine h.dequeue (c := c.tag) hnext.ge ?_ (fun u hu => ?_) (fun e u v hu hv => ?_) (fun e => ?_) hoff
    (fun q hq => ?_) fun e he => ?_
  · refine State.limits_congr fun e => ?_
    rcases Drive.eq_or_other d e with rfl | rfl
    · rw [hunit]
    · rw [State.decide1_drive_other]
  · rw [htag u hu]
    rcases (s.tag u).queued_or with ⟨q, n, hx⟩ | hx
    · rw [State.departs_tag_queued hx, hx]
      refine ⟨fun _ => rfl, fun y hy => .inl ⟨q, rfl, by cases hy; rfl⟩, fun e he => .inl ?_⟩
      have hqe : q.drive = e := beq_iff_eq.mp (he.resolve_right nofun)
      have hn : n ≤ s.limits e := by
        have := h.aged e u (.inl (by rw [hx]; exact beq_iff_eq.mpr hqe))
        rwa [hx] at this
      show (if _ then _ else _) ≤ _
      split
      · next hmem =>
        have hde : d = e := by
          have hqd := (h.member d u).mp hmem.1
          rw [hx] at hqd
          exact (beq_iff_eq.mp hqd).symm.trans hqe
        subst hde
        have hn' : n ≤ (s.geometry d).ageLimit := hn
        show age _ n ≤ (s.geometry d).ageLimit
        rw [age]
        split <;> omega
      · exact hn
    · rw [State.departs_tag_other hx]
      exact .refl _
  · have hnotBoth : ∀ v, v ≠ c.tag → ((s.decide1 d).tag v).activeOn e = true → e ≠ d := by
      intro w hw hwe hed
      have := hactive e w hw hwe
      rw [hed, hnone] at this
      cases this
    by_cases huc : u = c.tag <;> by_cases hvc : v = c.tag
    · rw [huc, hvc]
    · rw [huc] at hu
      exact absurd (honly e hu) (hnotBoth v hvc hv)
    · rw [hvc] at hv
      exact absurd (honly e hv) (hnotBoth u huc hu)
    · exact h.single e u v (hactive e u huc hu) (hactive e v hvc hv)
  · rcases Drive.eq_or_other d e with rfl | rfl
    · rw [hunit]
    · rw [State.decide1_drive_other, h.filter_other hon]
  · rw [hreq] at hq
    cases hq
    rw [hnext]
    exact h.stamps c.tag r (by rw [hc]; rfl)
  · refine hpassed.trans ?_
    have := h.aged d c.tag (.inl hon)
    rw [hc] at this
    rw [honly e he]
    exact this

/-- The newcomer takes the ACTIVE request's place, which returns to the queue by its stamp (R43). -/
theorem State.QueueOk.overtakes (h : s.QueueOk) {new act : Request} {newTag actTag : TagNo} {n passed : Nat}
    {m : Bool} (hactive : s.activeTag d = some actTag) (hnew : s.tag newTag = .queued new n)
    (hact : s.tag actTag = .active act passed .rotate m)
    (hguard : s.overtakes d new newTag act passed = true) (hdrive : new.drive = d) :
    (s.overtake d new newTag act actTag passed).QueueOk := by
  have hne : actTag ≠ newTag := by
    rintro rfl
    rw [hnew] at hact
    cases hact
  have hon : (s.tag newTag).queuedOn d = true := by
    rw [hnew]
    exact beq_iff_eq.mpr hdrive
  have hactDrive : act.drive = d := State.activeTag_drive hactive hact
  have hlimit : passed < (s.geometry d).ageLimit := by
    simp only [State.overtakes, Bool.and_eq_true, decide_eq_true_eq] at hguard
    exact hguard.1.2
  have hrequest : (s.tag actTag).request? = some act := by rw [hact]; rfl
  let s₁ := (s.leaveQueue d newTag).setTag newTag .free
  have htag₁ : ∀ u, u ≠ newTag → s₁.tag u = s.tag u := fun u hu => State.tag_setTag_ne _ hu _
  have hself₁ : s₁.tag newTag = .free := State.tag_setTag _ _ _
  have hqueue₁ : ∀ e, (s₁.drive e).queue = (s.drive e).queue.filter fun u => u != newTag := fun e => by
    show ((s.leaveQueue d newTag).drive e).queue = _
    rcases Drive.eq_or_other d e with rfl | rfl
    · rw [State.leaveQueue_queue]
    · rw [State.leaveQueue, State.drive_setQueue_other, h.filter_other hon]
  have hlimits₁ : ∀ e, s₁.limits e = s.limits e :=
    State.limits_congr (State.drive_setDrive_field DriveUnit.record rfl)
  have hactive₁ : ∀ e u, (s₁.tag u).activeOn e = true → (s.tag u).activeOn e = true := fun e u hu => by
    by_cases hun : u = newTag
    · rw [hun, hself₁] at hu
      cases hu
    · rwa [htag₁ u hun] at hu
  have h₁ : s₁.QueueOk := by
    refine h.dequeue (c := newTag) (le_refl _) hlimits₁ (fun u hu => ?_)
      (fun e u v hu hv => h.single e u v (hactive₁ e u hu) (hactive₁ e v hv)) hqueue₁
      (fun e => by rw [hself₁]; rfl) (fun r hr => ?_) fun e he => ?_
    · rw [htag₁ u hu]
      exact .refl _
    · rw [hself₁] at hr
      cases hr
    · rw [hself₁] at he
      cases he
  obtain ⟨older, newer, hbefore, hinsert, holder, hhead⟩ :=
    insertByStamp_spec s.stampOf actTag ((s.drive d).queue.filter fun u => u != newTag)
  have hstampAct : s.stampOf actTag = act.stamp := by rw [State.stampOf, hrequest]; rfl
  have hstamp₁ : ∀ u ∈ older ++ newer, s₁.stampOf u = s.stampOf u := fun u hu => by
    rw [← hbefore, List.mem_filter, bne_iff_ne] at hu
    rw [State.stampOf, State.stampOf, htag₁ u hu.2]
  have htag : ∀ u, u ≠ newTag → u ≠ actTag → (s.overtake d new newTag act actTag passed).tag u = s.tag u :=
    fun u => State.overtake_tag_ne
  have hnewTag : (s.overtake d new newTag act actTag passed).tag newTag = .active new 0 .rotate false :=
    State.overtake_tag_new
  have hactTag : (s.overtake d new newTag act actTag passed).tag actTag = .queued act (passed + 1) :=
    State.overtake_tag_former hne
  have hdrives := State.overtake_drive (d := d) (new := new) (newTag := newTag) (passed := passed) hrequest
  have hothers := State.overtake_drive_other (s := s) (d := d) (new := new) (act := act) (newTag := newTag)
    (actTag := actTag) (passed := passed)
  have hnext : (s.overtake d new newTag act actTag passed).nextStamp = s.nextStamp := by
    rw [State.overtake_frame]
  have hwas : ∀ e u, u ≠ newTag → ((s.overtake d new newTag act actTag passed).tag u).activeOn e = true →
      (s.tag u).activeOn e = true ∧ e ≠ d := fun e u hu he => by
    have hua : u ≠ actTag := by
      rintro rfl
      rw [hactTag] at he
      cases he
    rw [htag u hu hua] at he
    refine ⟨he, ?_⟩
    rintro rfl
    exact hua (h.single e u actTag he (State.activeTag_some hactive))
  refine h₁.enqueue (c := actTag) (d := d) (older := older) (newer := newer) (r := act) (p := passed + 1)
    hnext.ge ?_ (fun u hu => ?_) (fun e u v hu hv => ?_) ?_ ?_ ?_ (fun e => ?_) hactTag hactDrive ?_ ?_
    (fun u hu => ?_) fun u hu => ?_
  · refine fun e => (State.limits_congr (s := s) (fun e => ?_) e).trans (hlimits₁ e).symm
    rcases Drive.eq_or_other d e with rfl | rfl
    · rw [hdrives]
    · rw [hothers]
  · by_cases hun : u = newTag
    · rw [hun, hself₁, hnewTag]
      refine ⟨fun _ => rfl, fun r hr => .inr ⟨?_, fun _ => rfl⟩, fun e _ => .inl (Nat.zero_le _)⟩
      cases hr
      rw [hnext]
      exact h.stamps newTag new (by rw [hnew]; rfl)
    · rw [htag₁ u hun, htag u hun hu]
      exact .refl _
  · have hisNew : ∀ w, w = newTag → ((s.overtake d new newTag act actTag passed).tag w).activeOn e = true →
        e = d := fun w hw he => by
      rw [hw, hnewTag] at he
      exact (beq_iff_eq.mp he).symm.trans hdrive
    by_cases hun : u = newTag <;> by_cases hvn : v = newTag
    · rw [hun, hvn]
    · exact absurd (hisNew u hun hu) (hwas e v hvn hv).2
    · exact absurd (hisNew v hvn hv) (hwas e u hun hu).2
    · exact h.single e u v (hwas e u hun hu).1 (hwas e v hvn hv).1
  · rw [hqueue₁, hbefore]
  · rw [hdrives, hinsert]
  · rw [hothers, hqueue₁, h.filter_other hon]
  · rw [htag₁ actTag hne, hact]
    rfl
  · rw [hnext]
    exact h.stamps actTag act hrequest
  · rw [hlimits₁]
    exact hlimit
  · rw [hstamp₁ u (List.mem_append_left _ hu), ← hstampAct]
    exact holder u hu
  · rw [hstamp₁ u (List.mem_append_right _ hu), ← hstampAct]
    have hsorted : newer.Pairwise fun t u => s.stampOf t ≤ s.stampOf u := by
      have := (h.order d).filter fun u => u != newTag
      rw [hbefore, List.pairwise_append] at this
      exact this.2.1
    cases newer with
    | nil => cases hu
    | cons a rest =>
      have ha : s.stampOf actTag < s.stampOf a := hhead a rfl
      rcases List.mem_cons.mp hu with rfl | hu
      · exact ha.le
      · exact ha.le.trans ((List.pairwise_cons.mp hsorted).1 u hu)

/-- A request that completes at its acceptance takes the next stamp (R14). -/
theorem State.QueueOk.completes (h : s.QueueOk) {c : TagNo} (w : Work) (hc : s.tag c = .free) :
    (s.acceptDone c d w).QueueOk := by
  obtain ⟨hself, hthers, -, -, -⟩ := State.finish_spec ({ s with nextStamp := s.nextStamp + 1 } : State) c
    ⟨w, d, s.session, s.nextStamp, 0⟩ .ok
  have htag : ∀ u, u ≠ c → (s.acceptDone c d w).tag u = s.tag u := hthers
  have hdone : ∃ x, (s.acceptDone c d w).tag c = .done ⟨w, d, s.session, s.nextStamp, 0⟩ x := ⟨_, hself⟩
  obtain ⟨x, hdone⟩ := hdone
  refine h.congr (Nat.le_succ _) (fun _ => rfl) (fun _ => rfl) (fun u => ?_) fun u e hu => ?_
  · by_cases huc : u = c
    · rw [huc, hc, hdone]
      refine ⟨fun _ => rfl, fun r hr => .inr ⟨?_, fun _ => rfl⟩, fun e he => ?_⟩
      · cases hr
        exact Nat.lt_succ_self _
      · cases he <;> contradiction
    · rw [htag u huc]
      exact .refl _
  · by_cases huc : u = c
    · rw [huc, hdone] at hu
      cases hu
    · rwa [htag u huc] at hu

end Moves

theorem State.tame_finish {s : State} {c : TagNo} {r : Request} {p : Nat} {ph : Phase} {m : Bool}
    (h : s.tag c = .active r p ph m) (st : Status) (u : TagNo) :
    (s.tag u).Tame ((s.finish c r st).tag u) :=
  State.tame_setTag (s := s) (x := .done r ⟨st, reachedAt r.work st (s.drive r.drive).head.state⟩)
    (h ▸ .rest (fun _ => rfl) (r := r) rfl rfl rfl) u

theorem State.setPhase_tag_congr {s t : State} (h : t.tags = s.tags) (c : TagNo) (ph : Phase) (u : TagNo) :
    (t.setPhase c ph).tag u = (s.setPhase c ph).tag u := by
  have htag : t.tag c = s.tag c := State.tag_congr h c
  unfold State.setPhase
  rw [htag]
  split
  · exact State.tag_congr (by rw [State.setTag, State.setTag, h]) u
  · exact State.tag_congr h u

/-- A grant moves the tag to PASS and touches no other (R97). -/
theorem State.grantPass_tag_eq {s : State} {d : Drive} {c : TagNo} {r : Request} (u : TagNo) :
    (s.grantPass d c r).tag u = (s.setPhase c .pass).tag u := by
  simp only [State.grantPass, State.clearReservation_eq]
  refine State.setPhase_tag_congr ?_ c .pass u
  rfl

theorem State.tame_send {s : State} (e : Entry) (rest : List Entry) (u : TagNo) :
    (s.tag u).Tame ((s.send e rest).tag u) := by
  have hsend : (s.send e rest).tag u = ((s.setList rest).startSending e.reply?).tag u := rfl
  rw [hsend]
  unfold State.startSending
  split
  · split
    · next r _ hc =>
      exact State.tame_setTag (s := s.setList rest) (hc ▸ .rest (fun _ => rfl) (r := r) rfl rfl rfl) u
    · exact .refl _
  · exact .refl _

theorem State.tame_replySent {s : State} (c u : TagNo) : (s.tag u).Tame ((s.replySent c).tag u) := by
  unfold State.replySent
  split
  · next r _ _ hc =>
    split
    · exact State.tame_freeTag (fun _ => by rw [hc]; rfl) u
    · exact State.tame_setTag (hc ▸ .rest (fun _ => rfl) (r := r) rfl rfl rfl) u
  · exact .refl _

theorem queueOk_moves (K : Scope) (s t : State) (hm : Move K s t) (h : s.QueueOk) : t.QueueOk := by
  cases hm with
  | levels | receives | opens | binds | fills | reserves | holds | lines | passBody | closes | formats =>
    exact h.of_tags rfl rfl rfl
  | stats d x | spindle d x | head d x => exact h.setDrive rfl rfl
  | lands d x => exact (h.of_tags (t := s.releaseBus) rfl rfl rfl).setDrive rfl rfl
  | notice e kind tag =>
    rw [(State.addNotice_spec s e kind tag).rest]
    exact h.of_tags rfl rfl rfl
  | event d ev =>
    rw [State.raiseEvent_eq]
    exact h.of_tags rfl rfl rfl
  | reopens =>
    have hdrive := State.endSession_drive ({ s with session := nextSession s.session } : State)
    have htag := State.endSession_tag ({ s with session := nextSession s.session } : State)
    have hnext : (State.endSession ({ s with session := nextSession s.session } : State)).nextStamp
        = s.nextStamp := by
      obtain ⟨l, hframe⟩ := State.endSession_frame ({ s with session := nextSession s.session } : State)
      rw [hframe]
    generalize State.endSession _ = q at hdrive htag hnext ⊢
    have hq : q.QueueOk := by
      refine .of_empty (fun e => by rw [hdrive]) (fun u => ?_) fun u r hr => ?_
      · rw [htag]
        split
        · next hsending =>
          cases hx : ({ s with session := nextSession s.session } : State).tag u with
          | queued | active =>
            rw [hx] at hsending
            cases hsending
          | _ => rfl
        · rfl
      · rw [htag] at hr
        split at hr
        · rw [hnext]
          exact h.stamps u r hr
        · cases hr
    exact hq.of_tags rfl rfl rfl
  | redefines d g hK hidle =>
    simp only [State.isIdle, Bool.and_eq_true, List.isEmpty_iff] at hidle
    obtain ⟨⟨hqueue, hfree⟩, -⟩ := hidle
    have hqueues : ∀ e, ((s.redefine d g).drive e).queue = (s.drive e).queue :=
      State.drive_setDrive_field DriveUnit.queue rfl
    have hoff : ∀ u, (s.tag u).queuedOn d = false := fun u => by
      have := h.member d u
      rw [hqueue] at this
      simpa using this
    exact {
      member := fun e u => by rw [hqueues]; exact h.member e u
      nodup := fun e => by rw [hqueues]; exact h.nodup e
      order := fun e => by rw [hqueues]; exact h.order e
      stamps := h.stamps
      single := h.single
      aged := fun e u hu => by
        rcases Drive.eq_or_other d e with hed | rfl
        · have hu' : (s.tag u).queuedOn d = true ∨ (s.tag u).activeOn d = true := hed ▸ hu
          rw [hoff, ((State.isFree_iff s d).mp hfree).1] at hu'
          cases hu' <;> contradiction
        · have hother : (s.redefine d g).drive d.other = s.drive d.other := State.drive_setDrive_other s d _
          rw [State.geometry, hother]
          exact h.aged _ u hu }
  | decides d hK hfree => exact h.decides hfree
  | overtakes d new act newTag actTag n passed m hK hactive hnew hact hguard hdrive =>
    exact h.overtakes hactive hnew hact hguard hdrive
  | joins d u w hK ht hfree => exact h.joins w hfree
  | completes u d w ht hfree => exact h.completes w hfree
  | finishes u r st hu => exact h.of_units rfl rfl (State.tame_finish hu st)
  | quits u r st hK hu => exact h.quits hu st
  | fails d st => exact h.fails st
  | phase u ph => exact h.of_units (by rw [State.setPhase_eq]) (by rw [State.setPhase_eq]) (State.tame_setPhase u ph)
  | request u f hf =>
    refine h.of_units (by rw [State.onActive_eq]) (by rw [State.onActive_eq])
      (State.tame_onActive fun r => ⟨(hf r).1, ?_⟩)
    obtain ⟨-, -, hstamp, -⟩ := hf r
    exact hstamp
  | marks u r p ph m m' hu => exact h.of_units rfl rfl (State.tame_setTag (hu ▸ .phase rfl rfl))
  | releases u r x hu =>
    exact h.of_units (by rw [State.freeTag_frame]) (by rw [State.freeTag_frame])
      (State.tame_freeTag fun d => by rw [hu]; rfl)
  | withdraws u r x hu =>
    refine h.of_units ?_ ?_ (State.tame_freeTag (s := s.withdrawReply u) fun d => ?_)
    · rw [State.freeTag_frame]
      rfl
    · rw [State.freeTag_frame]
      rfl
    · show (s.tag u).queuedOn d = false
      rw [hu]
      rfl
  | lets u r x hu => exact h.of_units rfl rfl (State.tame_setTag (hu ▸ .rest (fun _ => rfl) (r := r) rfl rfl rfl))
  | resends u r x hu =>
    exact h.of_units rfl rfl (State.tame_setTag (s := s) (x := .done r x)
      (hu ▸ .rest (fun _ => rfl) (r := r) rfl rfl rfl))
  | grants d u r p =>
    refine h.of_units ?_ ?_ fun v => ?_
    · rw [State.beginPass_eq, State.grantPass_frame]
    · rw [State.beginPass_eq, State.grantPass_frame]
    · have hgrant : ((s.grantPass d u r).beginPass p).tag v = (s.setPhase u .pass).tag v := by
        rw [State.beginPass_eq]
        exact State.grantPass_tag_eq v
      rw [hgrant]
      exact State.tame_setPhase u .pass v
  | refuses d u r =>
    refine h.of_units ?_ ?_ fun v => ?_
    · rw [State.grantPass_frame]
      rfl
    · rw [State.grantPass_frame]
      rfl
    · have hgrant : (s.grantPass d u r).releaseBus.tag v = (s.setPhase u .pass).tag v :=
        State.grantPass_tag_eq v
      rw [hgrant]
      exact State.tame_setPhase u .pass v
  | passEnds p b =>
    refine h.of_tags ?_ ?_ ?_ <;> rw [State.dropPass_frame] <;> rfl

theorem queueOk_kept : Kept State.QueueOk where
  moves := queueOk_moves
  sends := fun s e rest _ _ _ _ h =>
    h.of_units (by rw [State.send_frame]) (by rw [State.send_frame]) (State.tame_send e rest)
  ends := fun s f _ _ h => by
    refine h.of_units (by rw [State.frameOver_frame]) (by rw [State.frameOver_frame]) fun u => ?_
    unfold State.frameOver
    split
    · exact State.tame_replySent (s := { s with tx := none }) _ u
    · exact .refl _
  hold := fun s b h => h.of_tags rfl rfl rfl
  resets := fun s cause h =>
    h.tame (fun e => by cases e <;> rfl) (fun e => by cases e <;> rfl) (le_refl _) fun _ => .refl _
  leaves := fun s rate1 rate0 _ => by
    have hfree : ∀ u, (s.afterReset rate1 rate0).tag u = .free := fun u => Vector.getElem_replicate _
    refine .of_empty (fun e => by cases e <;> rfl) (fun u => by rw [hfree]; rfl) fun u r hr => ?_
    rw [hfree] at hr
    cases hr
  pending := fun s l h => h.of_tags rfl rfl rfl

/-- Settles O42: each move keeps the queues in order, the decisions and the overtaking among them. -/
theorem queuesAreKept : Obligations.QueuesAreKept := fun _ _ h hstep => queueOk_kept.step h hstep

end Sys2Proof.Machine

/-! ## The transmit list

Every move keeps the bounds of the list and one REPLY for exactly the DONE tags (R134 to R139); a beginning and
an end of a frame keep SENDING at the tag of the frame on TXD (R23, R140, R141). -/

namespace Sys2Proof.Machine

/-! ### Lists of entries -/

/-- The bounds of the transmit list that do not speak of the tags. -/
structure ListShape (l : List Entry) : Prop where
  notices : noticeCount l ≤ Config.noticeSlots
  started : l.countP Entry.isStarted ≤ 1
  events : ∀ d, l.countP (Entry.isEventOf d) ≤ 1
  entries : ∀ e ∈ l, e.inBounds = true

section Shapes

variable {l l' : List Entry}

theorem ListShape.sublist (h : ListShape l) (hsub : l'.Sublist l) : ListShape l' where
  notices := (hsub.countP_le).trans h.notices
  started := (hsub.countP_le).trans h.started
  events := fun d => (hsub.countP_le).trans (h.events d)
  entries := fun e he => h.entries e (hsub.subset he)

theorem ListShape.reply (h : ListShape l) (t : TagNo) : ListShape (l ++ [.reply t]) where
  notices := by
    rw [noticeCount_append_reply]
    exact h.notices
  started := by
    rw [List.countP_append]
    exact h.started
  events := fun d => by
    rw [List.countP_append]
    exact h.events d
  entries := fun e he => by
    rcases List.mem_append.mp he with he | he
    · exact h.entries e he
    · obtain rfl := List.mem_singleton.mp he
      rfl

/-- An announcement takes the place of one still waiting (R138). -/
theorem ListShape.announced (h : ListShape l) (a : Announcement) :
    ListShape (l.filter (fun e => !e.isStarted) ++ [.started a]) := by
  have hkept := h.sublist (List.filter_sublist (l := l) (p := fun e => !e.isStarted))
  have hnone : (l.filter fun e => !e.isStarted).countP Entry.isStarted = 0 := by
    rw [List.countP_eq_zero]
    intro e he
    simpa using (List.mem_filter.mp he).2
  refine ⟨?_, ?_, fun d => ?_, fun e he => ?_⟩
  · rw [noticeCount_append]
    exact hkept.notices
  · rw [List.countP_append, hnone]
    exact Nat.le_refl 1
  · rw [List.countP_append]
    exact hkept.events d
  · rcases List.mem_append.mp he with he | he
    · exact hkept.entries e he
    · obtain rfl := List.mem_singleton.mp he
      rfl

theorem ListShape.noticed (h : ListShape l) {reason : Reason} {kind tag : Byte}
    (hadded : NoticeAdded l l' reason kind tag) : ListShape l' := by
  unfold NoticeAdded at hadded
  split at hadded
  · next hroom =>
    subst hadded
    refine ⟨?_, ?_, fun d => ?_, fun e he => ?_⟩
    · rw [noticeCount_append]
      exact hroom
    · rw [List.countP_append]
      exact h.started
    · rw [List.countP_append]
      exact h.events d
    · rcases List.mem_append.mp he with he | he
      · exact h.entries e he
      · obtain rfl := List.mem_singleton.mp he
        rfl
  · obtain ⟨older, newer, r, k, t, more, rfl, -, rfl⟩ := hadded
    obtain ⟨hnotices, hstarted, hevents, hentries⟩ := h
    have hmore : more ≤ 255 := of_decide_eq_true (hentries (.notice r k t more) (by simp))
    refine ⟨?_, ?_, fun d => ?_, fun e he => ?_⟩
    · simpa [noticeCount, List.countP_append, List.countP_cons, Entry.isNotice] using hnotices
    · simpa [List.countP_append, List.countP_cons, Entry.isStarted] using hstarted
    · simpa [List.countP_append, List.countP_cons, Entry.isEventOf] using hevents d
    · rcases List.mem_append.mp he with he | he
      · exact hentries e (by simp [he])
      · rcases List.mem_cons.mp he with rfl | he
        · refine decide_eq_true ?_
          split <;> omega
        · exact hentries e (by simp [he])

theorem NoticeAdded.count_reply {reason : Reason} {kind tag : Byte}
    (hadded : NoticeAdded l l' reason kind tag) (t : TagNo) : l'.count (.reply t) = l.count (.reply t) := by
  unfold NoticeAdded at hadded
  split at hadded
  · rw [hadded, List.count_append]
    simp
  · obtain ⟨older, newer, r, k, u, more, rfl, -, rfl⟩ := hadded
    simp

theorem EventSet.code_insert_ne (set : EventSet) (ev : DriveEvent) : ((set.insert ev).code != 0) = true := by
  obtain ⟨a, b, c, e, f⟩ := set
  cases ev <;> revert a b c e f <;> decide

theorem EventSet.code_single_ne (ev : DriveEvent) : ((EventSet.single ev).code != 0) = true := by
  cases ev <;> decide

theorem ListShape.event (h : ListShape l) {d : Drive} {ev : DriveEvent} (hadded : EventAdded l l' d ev) :
    ListShape l' := by
  obtain ⟨hnotices, hstarted, hevents, hentries⟩ := h
  rcases hadded with ⟨hnone, rfl⟩ | ⟨older, set, newer, rfl, rfl⟩
  · have hzero : l.countP (Entry.isEventOf d) = 0 := by
      rw [List.countP_eq_zero]
      rintro (t | ⟨e, set⟩ | n | a) he hof
      · cases hof
      · exact hnone set (beq_iff_eq.mp hof ▸ he)
      · cases hof
      · cases hof
    refine ⟨?_, ?_, fun e => ?_, fun e he => ?_⟩
    · rw [noticeCount_append]
      exact hnotices
    · rw [List.countP_append]
      exact hstarted
    · rw [List.countP_append]
      rcases Drive.eq_or_other d e with rfl | rfl
      · rw [hzero, Nat.zero_add]
        exact List.countP_le_length
      · have hother : List.countP (Entry.isEventOf d.other) [.event d (.single ev)] = 0 := by
          simp [Entry.isEventOf]
        rw [hother]
        exact hevents d.other
    · rcases List.mem_append.mp he with he | he
      · exact hentries e he
      · obtain rfl := List.mem_singleton.mp he
        exact EventSet.code_single_ne ev
  · refine ⟨?_, ?_, fun e => ?_, fun e he => ?_⟩
    · simpa [noticeCount, List.countP_append, List.countP_cons, Entry.isNotice] using hnotices
    · simpa [List.countP_append, List.countP_cons, Entry.isStarted] using hstarted
    · simpa [List.countP_append, List.countP_cons, Entry.isEventOf] using hevents e
    · rcases List.mem_append.mp he with he | he
      · exact hentries e (by simp [he])
      · rcases List.mem_cons.mp he with rfl | he
        · exact EventSet.code_insert_ne set ev
        · exact hentries e (by simp [he])

theorem EventAdded.count_reply {d : Drive} {ev : DriveEvent} (hadded : EventAdded l l' d ev) (t : TagNo) :
    l'.count (.reply t) = l.count (.reply t) := by
  rcases hadded with ⟨-, rfl⟩ | ⟨older, set, newer, rfl, rfl⟩
  · rw [List.count_append]
    simp
  · simp

end Shapes

/-! ### The list, STALL and the tags -/

/-- What `State.TransmitOk` says but for an idle transmitter. -/
structure State.ListOk (s : State) : Prop where
  shape : ListShape s.list
  replies : ∀ t, s.list.count (.reply t) = if (s.tag t).isDone then 1 else 0
  stall : s.resetHold = none → s.stall = decide (4 ≤ noticeCount s.list)
  sending : s.resetHold = none → ∀ t, (s.tag t).isSending = s.tx.any fun f => f.reply == some t

/-- A tag's record enters or leaves neither DONE nor SENDING. -/
def TagState.Quiet (x y : TagState) : Prop := y.isDone = x.isDone ∧ y.isSending = x.isSending

theorem TagState.Quiet.refl (x : TagState) : x.Quiet x := ⟨rfl, rfl⟩

section ListOk

variable {s t : State}

theorem State.quiet_setTag {c : TagNo} {x : TagState} (h : (s.tag c).Quiet x) (u : TagNo) :
    (s.tag u).Quiet ((s.setTag c x).tag u) := by
  by_cases hu : u = c
  · rw [hu, State.tag_setTag]
    exact h
  · rw [State.tag_setTag_ne s hu]
    exact .refl _

theorem State.quiet_setPhase (c : TagNo) (ph : Phase) (u : TagNo) :
    (s.tag u).Quiet ((s.setPhase c ph).tag u) := by
  unfold State.setPhase
  split
  · next hc => exact State.quiet_setTag (hc ▸ ⟨rfl, rfl⟩) u
  · exact .refl _

theorem State.quiet_onActive (c : TagNo) (f : Request → Request) (u : TagNo) :
    (s.tag u).Quiet ((s.onActive c f).tag u) := by
  unfold State.onActive
  split
  · next hc => exact State.quiet_setTag (hc ▸ ⟨rfl, rfl⟩) u
  · exact .refl _

theorem State.quiet_freeTag {c : TagNo} (h : (s.tag c).Quiet .free) (u : TagNo) :
    (s.tag u).Quiet ((s.freeTag c).tag u) := by
  obtain ⟨hself, hothers, -, -⟩ := State.freeTag_spec s c
  by_cases hu : u = c
  · rw [hu, hself]
    exact h
  · rw [hothers u hu]
    exact .refl _

variable (h : s.ListOk) (haside : s.Aside t)
include h haside

/-- The list is as it was, and no tag has entered or left DONE or SENDING. -/
theorem State.ListOk.quiet (hlist : t.list = s.list) (hstall : t.stall = s.stall)
    (htag : ∀ u, (s.tag u).Quiet (t.tag u)) : t.ListOk where
  shape := by
    rw [hlist]
    exact h.shape
  replies := fun u => by
    rw [hlist, (htag u).1]
    exact h.replies u
  stall := fun hheld => by
    rw [hlist, hstall]
    exact h.stall (haside.resetHold ▸ hheld)
  sending := fun hheld u => by
    rw [(htag u).2, haside.tx]
    exact h.sending (haside.resetHold ▸ hheld) u

/-- The list has changed, but no REPLY in it, and STALL follows it. -/
theorem State.ListOk.relist (hshape : ListShape t.list)
    (hcount : ∀ u, t.list.count (.reply u) = s.list.count (.reply u))
    (hstall : t.stall = decide (4 ≤ noticeCount t.list)) (htags : t.tags = s.tags) : t.ListOk where
  shape := hshape
  replies := fun u => by
    rw [hcount, State.tag_congr htags]
    exact h.replies u
  stall := fun _ => hstall
  sending := fun hheld u => by
    rw [State.tag_congr htags, haside.tx]
    exact h.sending (haside.resetHold ▸ hheld) u

omit haside in
/-- A tag neither DONE nor SENDING enters DONE, and its REPLY is listed (R16, R25). -/
theorem State.ListOk.done {c : TagNo} {r : Request} {x : Final} (hc : (s.tag c).Quiet .free) :
    ((s.setTag c (.done r x)).listEntry (.reply c)).ListOk := by
  have htag : ∀ u, u ≠ c → ((s.setTag c (.done r x)).listEntry (.reply c)).tag u = s.tag u :=
    fun u hu => State.tag_setTag_ne s hu _
  have hself : ((s.setTag c (.done r x)).listEntry (.reply c)).tag c = .done r x := State.tag_setTag s c _
  refine ⟨h.shape.reply c, fun u => ?_, fun _ => rfl, fun hheld u => ?_⟩
  · show (s.list ++ [Entry.reply c]).count (Entry.reply u) = _
    rw [List.count_append, h.replies]
    by_cases hu : u = c
    · rw [hu, hself, ← hc.1]
      simp [TagState.isDone]
    · rw [htag u hu, List.count_singleton]
      simp [Ne.symm hu]
  · show _ = s.tx.any _
    rw [← h.sending hheld]
    by_cases hu : u = c
    · rw [hu, hself, ← hc.2]
      rfl
    · rw [htag u hu]

end ListOk

section Moves

variable {s : State}

theorem State.ListOk.finish (h : s.ListOk) {c : TagNo} (r : Request) (st : Status)
    (hc : (s.tag c).Quiet .free) : (s.finish c r st).ListOk := h.done hc

theorem State.ListOk.failTag (h : s.ListOk) (c : TagNo) (st : Status) : (s.failTag c st).ListOk := by
  cases hc : s.tag c with
  | queued r p =>
    rw [State.failTag_queued hc]
    exact h.finish r _ (hc ▸ ⟨rfl, rfl⟩)
  | active r p ph m =>
    rw [State.failTag_active hc]
    exact h.finish r _ (hc ▸ ⟨rfl, rfl⟩)
  | _ => simpa only [State.failTag, State.finishTag, hc] using h

theorem State.ListOk.foldl_failTag (st : Status) : ∀ (l : List TagNo) {s : State}, s.ListOk →
    (l.foldl (fun s t => s.failTag t st) s).ListOk
  | [], _, h => h
  | c :: l, _, h => State.ListOk.foldl_failTag st l (h.failTag c st)

theorem State.ListOk.activate (h : s.ListOk) (d : Drive) (c : TagNo) : (s.activate d c).ListOk := by
  unfold State.activate
  split
  · next r p hc =>
    have hactive : ∀ ph, (s.setTag c (.active r p ph false)).ListOk := fun ph =>
      h.quiet (State.setTag_workOnly s c _).aside rfl rfl (State.quiet_setTag (hc ▸ ⟨rfl, rfl⟩))
    split
    · exact h.finish r .ok (hc ▸ ⟨rfl, rfl⟩)
    · exact hactive .rotate
    · refine (hactive .position).quiet (State.orderMotion_workOnly _ d c _ _).aside ?_ ?_ fun u =>
        State.quiet_setPhase (s := (State.setHead _ d _)) c .position u
      · rw [State.orderMotion, State.setPhase_eq]
        rfl
      · rw [State.orderMotion, State.setPhase_eq]
        rfl
  · exact h

theorem State.departs_workOnly (s : State) (d : Drive) (c : Choice) : s.WorkOnly (s.departs d c) := by
  unfold State.departs State.raisePassed
  exact ((State.setDrive_workOnly s d _).trans (State.setDrive_workOnly _ d _)).trans
    (State.mapTags_workOnly _ _)

theorem State.ListOk.decides (h : s.ListOk) (d : Drive) : (s.decide1 d).ListOk := by
  rcases hchoose : s.choose d with _ | c
  · simpa only [State.decide1, hchoose] using h
  · rw [State.decide1_eq hchoose]
    refine (h.quiet (s.departs_workOnly d c).aside rfl rfl fun u => ?_).activate d c.tag
    rcases (s.tag u).queued_or with ⟨q, n, hx⟩ | hx
    · rw [State.departs_tag_queued hx, hx]
      exact ⟨rfl, rfl⟩
    · rw [State.departs_tag_other hx]
      exact .refl _

theorem State.endSession_list (s : State) : s.endSession.list = s.list.filter Entry.isEvent := by
  obtain ⟨l, h⟩ := s.endSession_frame
  rw [h]

theorem count_reply_announced (l : List Entry) (a : Announcement) (u : TagNo) :
    (l.filter (fun e => !e.isStarted) ++ [Entry.started a]).count (.reply u) = l.count (.reply u) := by
  have hfilter : (l.filter fun e => !e.isStarted).count (Entry.reply u) = l.count (.reply u) :=
    List.count_filter rfl
  rw [List.count_append, hfilter]
  simp

/-- A session end takes every REPLY out of the list and every tag but a SENDING one out of use (R161). -/
theorem State.ListOk.endSession (h : s.ListOk) : s.endSession.announce .opened |>.ListOk := by
  obtain ⟨l, hframe⟩ := s.endSession_frame
  have hlist := s.endSession_list
  have htag := s.endSession_tag
  have htx : s.endSession.tx = s.tx := by rw [hframe]
  have hreset : s.endSession.resetHold = s.resetHold := by rw [hframe]
  clear hframe
  generalize s.endSession = q at hlist htag htx hreset ⊢
  have hkept : ListShape q.list := hlist ▸ h.shape.sublist List.filter_sublist
  have hdone : ∀ u, (q.tag u).isDone = false ∧ (q.tag u).isSending = (s.tag u).isSending := fun u => by
    rw [htag]
    cases s.tag u <;> exact ⟨rfl, rfl⟩
  refine ⟨hkept.announced _, fun u => ?_, fun _ => rfl, fun hheld u => ?_⟩
  · refine (count_reply_announced q.list .opened u).trans ?_
    have hzero : q.list.count (.reply u) = 0 := by
      rw [List.count_eq_zero, hlist]
      intro hmem
      cases (List.mem_filter.mp hmem).2
    rw [hzero]
    show 0 = if (q.tag u).isDone then 1 else 0
    rw [(hdone u).1]
    rfl
  · show (q.tag u).isSending = q.tx.any _
    rw [(hdone u).2, htx]
    exact h.sending (hreset ▸ hheld) u

/-- A DONE tag is released, and its REPLY leaves the list (R24). -/
theorem State.ListOk.withdraw (h : s.ListOk) {c : TagNo} {r : Request} {x : Final}
    (hc : s.tag c = .done r x) : ((s.withdrawReply c).freeTag c).ListOk := by
  obtain ⟨hself, hothers, -, hframe⟩ := State.freeTag_spec (s.withdrawReply c) c
  have hrest : ∀ u, u ≠ c → ((s.withdrawReply c).freeTag c).tag u = s.tag u := hothers
  have hlist : ((s.withdrawReply c).freeTag c).list = s.list.filter fun e => e != .reply c := by
    rw [hframe]
    rfl
  have hstall : ((s.withdrawReply c).freeTag c).stall
      = decide (4 ≤ noticeCount ((s.withdrawReply c).freeTag c).list) := by
    rw [hframe]
    rfl
  have htx : ((s.withdrawReply c).freeTag c).tx = s.tx := by
    rw [hframe]
    rfl
  have hreset : ((s.withdrawReply c).freeTag c).resetHold = s.resetHold := by
    rw [hframe]
    rfl
  generalize (s.withdrawReply c).freeTag c = q at *
  refine ⟨hlist ▸ h.shape.sublist List.filter_sublist, fun u => ?_, fun _ => hstall, fun hheld u => ?_⟩
  · rw [hlist]
    by_cases hu : u = c
    · rw [hu, hself, List.count_eq_zero.mpr (by simp)]
      rfl
    · rw [hrest u hu, List.count_filter (by simpa using hu)]
      exact h.replies u
  · rw [htx, ← h.sending (hreset ▸ hheld)]
    by_cases hu : u = c
    · rw [hu, hself, hc]
      rfl
    · rw [hrest u hu]

theorem listOk_moves (K : Scope) (s t : State) (hm : Move K s t) (h : s.ListOk) : t.ListOk := by
  have haside := hm.aside
  cases hm with
  | levels | receives | spindle | head | stats | redefines | binds | fills | reserves | holds | lines | lands
    | passBody | closes | formats => exact h.quiet haside rfl rfl fun _ => .refl _
  | notice e kind tag =>
    have hspec := State.addNotice_spec s e kind tag
    exact h.relist haside (h.shape.noticed hspec.list) hspec.list.count_reply hspec.stall
      (by rw [hspec.rest])
  | event d ev =>
    have hadded := State.raiseEvent_eventAdded ev (h.shape.events d)
    refine h.relist haside (h.shape.event hadded) hadded.count_reply ?_ ?_
    · rw [State.raiseEvent_eq]
    · rw [State.raiseEvent_eq]
  | opens =>
    exact h.relist haside (h.shape.announced _) (count_reply_announced s.list _) rfl rfl
  | reopens =>
    have hq : ({ s with session := nextSession s.session } : State).ListOk :=
      ⟨h.shape, h.replies, h.stall, h.sending⟩
    exact hq.endSession
  | decides d => exact h.decides d
  | overtakes d new act newTag actTag n passed m hK hactive hnew hact =>
    refine h.quiet haside ?_ ?_ fun u => ?_
    · rw [State.overtake_frame]
    · rw [State.overtake_frame]
    · by_cases hun : u = newTag
      · rw [hun, State.overtake_tag_new, hnew]
        exact ⟨rfl, rfl⟩
      by_cases hua : u = actTag
      · rw [hua, State.overtake_tag_former (hua ▸ hun), hact]
        exact ⟨rfl, rfl⟩
      · rw [State.overtake_tag_ne hun hua]
        exact .refl _
  | joins d c w hK ht hfree =>
    have hc : (({ s with nextStamp := s.nextStamp + 1 } : State).tag c).Quiet
        (.queued ⟨w, d, s.session, s.nextStamp, 0⟩ 0) := by
      have htag : ({ s with nextStamp := s.nextStamp + 1 } : State).tag c = .free := hfree
      rw [htag]
      exact ⟨rfl, rfl⟩
    exact h.quiet haside rfl rfl (State.quiet_setTag hc)
  | completes c d w ht hfree =>
    have hq : ({ s with nextStamp := s.nextStamp + 1 } : State).ListOk :=
      ⟨h.shape, h.replies, h.stall, h.sending⟩
    have htag : ({ s with nextStamp := s.nextStamp + 1 } : State).tag c = .free := hfree
    exact hq.finish _ .ok (htag ▸ .refl _)
  | finishes c r st hc => exact h.finish r st (hc ▸ ⟨rfl, rfl⟩)
  | quits c r st hK hc =>
    have hq : (s.leaveQueue r.drive c).ListOk :=
      h.quiet (State.setDrive_workOnly s _ _).aside rfl rfl fun _ => .refl _
    have htag : (s.leaveQueue r.drive c).tag c = .queued r _ := hc
    exact hq.finish r st (htag ▸ ⟨rfl, rfl⟩)
  | fails d st =>
    have hq : (s.setQueue d []).ListOk :=
      h.quiet (State.setDrive_workOnly s _ _).aside rfl rfl fun _ => .refl _
    exact hq.foldl_failTag st _
  | phase c ph =>
    exact h.quiet haside (by rw [State.setPhase_eq]) (by rw [State.setPhase_eq]) (State.quiet_setPhase c ph)
  | request c f =>
    exact h.quiet haside (by rw [State.onActive_eq]) (by rw [State.onActive_eq]) (State.quiet_onActive c f)
  | marks c r p ph m m' hc => exact h.quiet haside rfl rfl (State.quiet_setTag (hc ▸ ⟨rfl, rfl⟩))
  | releases c r x hc =>
    exact h.quiet haside (by rw [State.freeTag_frame]) (by rw [State.freeTag_frame])
      (State.quiet_freeTag (hc ▸ ⟨rfl, rfl⟩))
  | withdraws c r x hc => exact h.withdraw hc
  | lets c r x hc => exact h.quiet haside rfl rfl (State.quiet_setTag (hc ▸ ⟨rfl, rfl⟩))
  | resends c r x hc => exact h.done (hc ▸ ⟨rfl, rfl⟩)
  | grants d c r p =>
    refine h.quiet haside ?_ ?_ fun u => ?_
    · rw [State.beginPass_eq, State.grantPass_frame]
    · rw [State.beginPass_eq, State.grantPass_frame]
    · have hgrant : ((s.grantPass d c r).beginPass p).tag u = (s.setPhase c .pass).tag u := by
        rw [State.beginPass_eq]
        exact State.grantPass_tag_eq u
      rw [hgrant]
      exact State.quiet_setPhase c .pass u
  | refuses d c r =>
    refine h.quiet haside ?_ ?_ fun u => ?_
    · rw [State.grantPass_frame]
      rfl
    · rw [State.grantPass_frame]
      rfl
    · have hgrant : (s.grantPass d c r).releaseBus.tag u = (s.setPhase c .pass).tag u :=
        State.grantPass_tag_eq u
      rw [hgrant]
      exact State.quiet_setPhase c .pass u
  | passEnds p b =>
    refine h.quiet haside ?_ ?_ fun u => ?_
    · rw [State.dropPass_frame]
      rfl
    · rw [State.dropPass_frame]
      rfl
    · have htag : (s.dropPass b).tag u = s.tag u := State.tag_congr (by rw [State.dropPass_frame]; rfl) u
      rw [htag]
      exact .refl _

/-! ### Frames -/

theorem State.send_tag_eq (e : Entry) (rest : List Entry) (u : TagNo) :
    (s.send e rest).tag u = ((s.setList rest).startSending e.reply?).tag u := rfl

/-- A frame begins: its REPLY's tag goes from DONE to SENDING (R23, R140). -/
theorem State.ListOk.send (h : s.ListOk) {e : Entry} {rest : List Entry} (htx : s.tx = none)
    (hheld : s.resetHold = none) (hlist : s.list = e :: rest) : (s.send e rest).ListOk := by
  have hframe : (s.send e rest).list = rest ∧ (s.send e rest).stall = decide (4 ≤ noticeCount rest)
      ∧ ∃ line, (s.send e rest).tx = some ⟨e.reply?, line⟩ := by
    rw [State.send, State.startSending_eq]
    exact ⟨rfl, rfl, _, rfl⟩
  obtain ⟨hrest, hstall, line, hline⟩ := hframe
  have hsub : rest.Sublist s.list := hlist ▸ List.sublist_cons_self e rest
  have hcount : ∀ u, s.list.count (.reply u) = rest.count (.reply u) + if e.reply? = some u then 1 else 0 := by
    intro u
    rw [hlist, List.count_cons]
    congr 1
    cases e <;> simp [Entry.reply?]
  have htag : ∀ u, (e.reply? ≠ some u → (s.send e rest).tag u = s.tag u)
      ∧ (e.reply? = some u → ∃ r x, s.tag u = .done r x ∧ (s.send e rest).tag u = .sending r x false) := by
    intro u
    rcases hreply : e.reply? with _ | c
    · refine ⟨fun _ => ?_, nofun⟩
      rw [State.send_tag_eq, hreply]
      rfl
    · have hdone : (s.tag c).isDone = true := by
        have := h.replies c
        rw [hcount, hreply, if_pos rfl] at this
        by_contra hnot
        rw [if_neg hnot] at this
        omega
      obtain ⟨r, x, hc⟩ : ∃ r x, s.tag c = .done r x := by
        cases hx : s.tag c with
        | done r x => exact ⟨r, x, rfl⟩
        | _ =>
          rw [hx] at hdone
          cases hdone
      have hstart : (s.setList rest).startSending (some c) = (s.setList rest).setTag c (.sending r x false) := by
        have hc' : (s.setList rest).tag c = .done r x := hc
        simp only [State.startSending, hc']
      rw [State.send_tag_eq, hreply, hstart]
      refine ⟨fun hu => State.tag_setTag_ne _ (fun h => hu (by rw [h])) _, fun hu => ?_⟩
      obtain rfl := Option.some.inj hu
      exact ⟨r, x, hc, State.tag_setTag _ _ _⟩
  refine ⟨by rw [hrest]; exact h.shape.sublist hsub, fun u => ?_, fun _ => by rw [hstall, hrest],
    fun _ u => ?_⟩
  · have hold := h.replies u
    rw [hcount] at hold
    rw [hrest]
    by_cases hu : e.reply? = some u
    · obtain ⟨r, x, hbefore, hafter⟩ := (htag u).2 hu
      rw [if_pos hu, hbefore] at hold
      rw [hafter]
      exact Nat.add_right_cancel hold
    · rw [(htag u).1 hu, ← hold, if_neg hu, Nat.add_zero]
  · rw [hline]
    have hnot : (s.tag u).isSending = false := by rw [h.sending hheld, htx]; rfl
    by_cases hu : e.reply? = some u
    · obtain ⟨r, x, -, hafter⟩ := (htag u).2 hu
      rw [hafter, hu]
      simp [TagState.isSending]
    · rw [(htag u).1 hu, hnot]
      simpa using hu

/-- A frame ends: the tag of a REPLY leaves SENDING (R23, R141). -/
theorem State.ListOk.frameOver (h : s.ListOk) {f : TxFrame} (hheld : s.resetHold = none)
    (htx : s.tx = some f) : (s.frameOver f).ListOk := by
  have hframe := s.frameOver_frame f
  have hlist : (s.frameOver f).list = s.list := by rw [hframe]
  have hstall : (s.frameOver f).stall = s.stall := by rw [hframe]
  have hnone : (s.frameOver f).tx = none := by rw [hframe]
  have htag : ∀ u, ((s.frameOver f).tag u).isDone = (s.tag u).isDone
      ∧ ((s.frameOver f).tag u).isSending = false := by
    intro u
    have hsending := h.sending hheld
    rw [htx] at hsending
    unfold State.frameOver
    split
    · next c hreply =>
      have hself : f.reply = some c := hreply
      by_cases hu : u = c
      · have hc : (s.tag c).isSending = true := by simp [hsending, hself]
        rw [hu]
        cases hx : s.tag c with
        | sending r x released =>
          have hx' : ({ s with tx := none } : State).tag c = .sending r x released := hx
          simp only [State.replySent, hx']
          split
          · obtain ⟨hfree, -, -, -⟩ := State.freeTag_spec ({ s with tx := none } : State) c
            rw [hfree]
            exact ⟨rfl, rfl⟩
          · rw [State.tag_setTag]
            exact ⟨rfl, rfl⟩
        | _ =>
          rw [hx] at hc
          cases hc
      · have hother : (({ s with tx := none } : State).replySent c).tag u = s.tag u := by
          unfold State.replySent
          split
          · split
            · obtain ⟨-, hothers, -, -⟩ := State.freeTag_spec ({ s with tx := none } : State) c
              exact hothers u hu
            · exact State.tag_setTag_ne _ hu _
          · rfl
        rw [hother]
        refine ⟨rfl, ?_⟩
        rw [hsending]
        simp [hself, Ne.symm hu]
    · next hreply =>
      have hself : f.reply = none := hreply
      refine ⟨rfl, ?_⟩
      show (s.tag u).isSending = false
      rw [hsending]
      simp [hself]
  refine ⟨hlist ▸ h.shape, fun u => ?_, fun _ => ?_, fun _ u => ?_⟩
  · rw [hlist, (htag u).1]
    exact h.replies u
  · rw [hlist, hstall]
    exact h.stall hheld
  · rw [(htag u).2, hnone]
    rfl

end Moves

theorem listOk_kept : Kept State.ListOk where
  moves := listOk_moves
  sends := fun s e rest htx _ hheld hlist h => h.send htx hheld hlist
  ends := fun s f hheld htx h => h.frameOver hheld htx
  hold := fun s b h => ⟨h.shape, h.replies, h.stall, h.sending⟩
  resets := fun s cause h => ⟨h.shape, h.replies, nofun, nofun⟩
  leaves := fun s rate1 rate0 _ => by
    have hfree : ∀ u, (s.afterReset rate1 rate0).tag u = .free := fun u => Vector.getElem_replicate _
    refine ⟨⟨Nat.zero_le _, Nat.le_refl 1, fun d => Nat.zero_le _, fun e he => ?_⟩, fun u => ?_,
      fun _ => rfl, fun _ u => ?_⟩
    · obtain rfl := List.mem_singleton.mp he
      rfl
    · rw [hfree]
      rfl
    · rw [hfree]
      rfl
  pending := fun s l h => ⟨h.shape, h.replies, h.stall, h.sending⟩

/-! ### An idle transmitter -/

/-- An idle transmitter with HOLD not asserted has an empty list, outside reset. -/
def State.Drained (s : State) : Prop := s.resetHold = none → s.tx = none → s.hold = false → s.list = []

theorem State.beginFrame_drained (s : State) : s.beginFrame.Drained := by
  intro hheld htx hhold
  by_cases hready : s.tx = none ∧ s.hold = false ∧ s.resetHold = none
  · rcases hlist : s.list with _ | ⟨e, rest⟩
    · rw [State.beginFrame_not_ready (.inr (.inr (.inr hlist)))]
      exact hlist
    · have hbegin : s.beginFrame = s.send e rest := by
        simp only [State.beginFrame, if_pos hready, hlist]
      rw [hbegin] at htx
      cases htx
  · exfalso
    have hsame : s.beginFrame = s := by
      refine State.beginFrame_not_ready ?_
      by_contra hnot
      simp only [not_or, not_not, Bool.not_eq_true] at hnot
      exact hready ⟨hnot.1, hnot.2.1, hnot.2.2.1⟩
    rw [hsame] at hheld htx hhold
    exact hready ⟨htx, hhold, hheld⟩

theorem State.Drained.exec {c : Instr} {s t : State} (h : s.Drained) (hexec : exec c s = .next t) :
    t.Drained := by
  by_cases hc : c.isSignal = true
  case neg =>
    obtain ⟨q, hq, hend⟩ := exec_leads (by simpa using hc) hexec
    rcases hend with rfl | ⟨rfl, hlist⟩
    · exact q.beginFrame_drained
    · obtain ⟨-, htx, hhold, hheld, -⟩ := Moves.aside hq
      intro h1 h2 h3
      rw [hlist]
      exact h (hheld ▸ h1) (htx ▸ h2) (hhold ▸ h3)
  case pos =>
    cases c with
    | resetBegin => cases hexec; exact nofun
    | holdAsserted => cases hexec; exact fun _ _ => nofun
    | hardwareReset | holdDeasserted => cases hexec; exact State.beginFrame_drained _
    | frameEnd =>
      rcases exec_frameEnd hexec with rfl | ⟨f, -, -, rfl⟩
      · exact h
      · exact State.beginFrame_drained _
    | _ => cases hc

theorem State.Drained.step {s t : State} (h : s.Drained) (hstep : step s = .next t) : t.Drained := by
  unfold Machine.step at hstep
  split at hstep
  · cases hstep
    exact h
  · next c rest _ =>
    have hq : ({ s with pending := rest } : State).Drained := h
    exact hq.exec hstep

/-- Settles O22: the moves and the frames keep the list and the SENDING tag, and every command that lists
anything ends with the beginning of a frame. -/
theorem transmitListIsKept : Obligations.TransmitListIsKept := by
  intro s t h hstep
  have hlist : s.ListOk :=
    ⟨⟨h.notices, h.started, h.events, h.entries⟩, h.replies, h.stall, h.sending⟩
  obtain ⟨⟨hnotices, hstarted, hevents, hentries⟩, hreplies, hstall, hsending⟩ := listOk_kept.step hlist hstep
  have hidle : t.Drained := State.Drained.step h.idle hstep
  exact ⟨hnotices, hstarted, hevents, hreplies, hentries, hstall, hsending, hidle⟩

end Sys2Proof.Machine

/-! ## Requests with a final status

A request that has its final status keeps its record and the contents of its buffer until its tag is FREE
(R16, R129, R131). -/

namespace Sys2Proof.Machine

/-! ### Buffers at a session end -/

section SessionEnd

variable (s : State) (b : BufNo)

theorem State.workEnded_settled : ∃ q : State, s.workEnded = q.settleBuffers ∧ q.buffers = s.buffers
    ∧ q.tags = s.freeAllTags.tags ∧ q.pass = s.pass.map Pass.detach := by
  have h : ((s.freeAllTags.orphanMotion .d0).orphanMotion .d1).detachPass = { s with
      tags := s.freeAllTags.tags, pass := s.pass.map Pass.detach
      units := ((s.freeAllTags.orphanMotion .d0).orphanMotion .d1).units } := by
    rw [State.detachPass, State.orphanMotion_frame, State.orphanMotion_frame, State.freeAllTags_frame]
  refine ⟨_, State.workEnded.eq_1 s, ?_, ?_, ?_⟩ <;> rw [h]

theorem State.settleBuffers_tag {s : State} {b : BufNo} {t : TagNo} (h : (s.buffer b).binding = .tag t) :
    s.settleBuffers.buffer b = ⟨if (s.pass.any fun p => p.buffer == some b) = true then .detachedPass
      else if (s.tag t).isSending then .tag t else .free, (s.buffer b).contents⟩ := by
  rw [State.settleBuffers, State.buffer_mapBuffers]
  simp only [h]
  split_ifs
  · rfl
  · rw [← h]
  · rfl

theorem State.settleBuffers_other {s : State} {b : BufNo} (h : ∀ t, (s.buffer b).binding ≠ .tag t) :
    s.settleBuffers.buffer b = s.buffer b := by
  rw [State.settleBuffers, State.buffer_mapBuffers]
  cases hb : (s.buffer b).binding with
  | tag t => exact absurd hb (h t)
  | _ => simp only

theorem State.endSession_buffer : s.endSession.buffer b = s.workEnded.buffer b := by
  obtain ⟨l, h⟩ := s.endSession_frame
  exact State.buffer_congr (by rw [h]) b

variable {s b}

/-- A session end moves a buffer to the detached pass, leaves it to a SENDING tag, or frees it (R132). -/
theorem State.endSession_buffer_tag {t : TagNo} (h : (s.buffer b).binding = .tag t) :
    s.endSession.buffer b = ⟨if (s.pass.any fun p => p.buffer == some b) = true then .detachedPass
      else if (s.tag t).isSending then .tag t else .free, (s.buffer b).contents⟩ := by
  obtain ⟨q, hq, hbuffers, htags, hpass⟩ := s.workEnded_settled
  have hany : q.pass.any (fun p => p.buffer == some b) = s.pass.any fun p => p.buffer == some b := by
    rw [hpass]
    cases s.pass <;> rfl
  have hsending : (q.tag t).isSending = (s.tag t).isSending := by
    rw [State.tag_congr htags, State.freeAllTags_tag]
    cases s.tag t <;> rfl
  have hbuffer := State.buffer_congr hbuffers b
  rw [State.endSession_buffer, hq, State.settleBuffers_tag (hbuffer ▸ h), hany, hsending, hbuffer]

theorem State.endSession_buffer_other (h : ∀ t, (s.buffer b).binding ≠ .tag t) :
    s.endSession.buffer b = s.buffer b := by
  obtain ⟨q, hq, hbuffers, -, -⟩ := s.workEnded_settled
  have hbuffer := State.buffer_congr hbuffers b
  rw [State.endSession_buffer, hq, State.settleBuffers_other (hbuffer ▸ h), hbuffer]

end SessionEnd

/-! ### What a move can do to a tag -/

/-- A tag still has its request, with its stamp and buffer, and its final status if it had one. -/
structure TagState.Carries (x y : TagState) : Prop where
  request : ∀ q, x.request? = some q →
    ∃ q', y.request? = some q' ∧ q'.stamp = q.stamp ∧ q'.work.buffer? = q.work.buffer?
  final : ∀ f, x.final? = some f → y.final? = some f
  free : x = .free → y = .free

/-- What a move can do to a tag. -/
inductive TagMove (accepts : Nat → Prop) (bound : BufNo → Prop) (x : TagState) : TagState → Prop
  | carries {y : TagState} (h : x.Carries y) : TagMove accepts bound x y
  | frees : TagMove accepts bound x .free
  | accepted {y : TagState} {q : Request} (hx : x = .free) (hy : y.request? = some q)
      (ha : accepts q.stamp) (hb : ∀ b, q.work.buffer? = some b → bound b) : TagMove accepts bound x y

theorem TagState.Carries.refl (x : TagState) : x.Carries x :=
  ⟨fun q h => ⟨q, h, rfl, rfl⟩, fun _ => id, id⟩

theorem TagState.Carries.trans {x y z : TagState} (h : x.Carries y) (k : y.Carries z) : x.Carries z where
  request := fun q hq => by
    obtain ⟨q₁, hq₁, hs₁, hb₁⟩ := h.request q hq
    obtain ⟨q₂, hq₂, hs₂, hb₂⟩ := k.request q₁ hq₁
    exact ⟨q₂, hq₂, hs₂.trans hs₁, hb₂.trans hb₁⟩
  final := fun f hf => k.final f (h.final f hf)
  free := k.free ∘ h.free

/-- The record of a request goes on with the same request, or one of the same stamp and buffer. -/
theorem TagState.Carries.of {x y : TagState} {q q' : Request} (hx : x.request? = some q)
    (hy : y.request? = some q') (hstamp : q'.stamp = q.stamp) (hbuffer : q'.work.buffer? = q.work.buffer?)
    (hfinal : ∀ f, x.final? = some f → y.final? = some f) : x.Carries y where
  request := fun a ha => by
    rw [hx] at ha
    cases ha
    exact ⟨q', hy, hstamp, hbuffer⟩
  final := hfinal
  free := fun h => by rw [h] at hx; cases hx

theorem TagState.final?_of_inWork {x : TagState} (h : x.inWork = true) : x.final? = none := by
  cases x with
  | queued | active => rfl
  | _ => cases h

theorem TagState.Carries.work {x y : TagState} {q q' : Request} (hw : x.inWork = true)
    (hx : x.request? = some q) (hy : y.request? = some q') (hstamp : q'.stamp = q.stamp)
    (hbuffer : q'.work.buffer? = q.work.buffer?) : x.Carries y :=
  .of hx hy hstamp hbuffer fun f hf => by rw [TagState.final?_of_inWork hw] at hf; cases hf

section TagMoves

variable {s : State} {a : Nat → Prop} {bd : BufNo → Prop}

theorem State.carries_setTag {c : TagNo} {x : TagState} (h : (s.tag c).Carries x) (u : TagNo) :
    (s.tag u).Carries ((s.setTag c x).tag u) := by
  by_cases hu : u = c
  · rw [hu, State.tag_setTag]
    exact h
  · rw [State.tag_setTag_ne s hu]
    exact .refl _

theorem State.carries_setPhase (c : TagNo) (ph : Phase) (u : TagNo) :
    (s.tag u).Carries ((s.setPhase c ph).tag u) := by
  unfold State.setPhase
  split
  · next r _ _ _ hc => exact State.carries_setTag (hc ▸ .work rfl (q := r) rfl rfl rfl rfl) u
  · exact .refl _

theorem State.carries_onActive (c : TagNo) {f : Request → Request}
    (h : ∀ r, (f r).stamp = r.stamp ∧ (f r).work.buffer? = r.work.buffer?) (u : TagNo) :
    (s.tag u).Carries ((s.onActive c f).tag u) := by
  unfold State.onActive
  split
  · next r _ _ _ hc => exact State.carries_setTag (hc ▸ .work rfl (q := r) rfl rfl (h r).1 (h r).2) u
  · exact .refl _

theorem State.carries_finish {c : TagNo} {r : Request} (hr : (s.tag c).request? = some r)
    (hw : (s.tag c).inWork = true) (st : Status) (u : TagNo) :
    (s.tag u).Carries ((s.finish c r st).tag u) :=
  State.carries_setTag (s := s) (x := .done r ⟨st, reachedAt r.work st (s.drive r.drive).head.state⟩)
    (.work hw hr rfl rfl rfl) u

theorem State.carries_failTag (c : TagNo) (st : Status) (u : TagNo) :
    (s.tag u).Carries ((s.failTag c st).tag u) := by
  cases hc : s.tag c with
  | queued r p =>
    rw [State.failTag_queued hc]
    exact State.carries_finish (by rw [hc]; rfl) (by rw [hc]; rfl) _ u
  | active r p ph m =>
    rw [State.failTag_active hc]
    exact State.carries_finish (by rw [hc]; rfl) (by rw [hc]; rfl) _ u
  | _ => simpa only [State.failTag, State.finishTag, hc] using TagState.Carries.refl _

theorem State.carries_foldl_failTag (st : Status) (u : TagNo) : ∀ (l : List TagNo) (s : State),
    (s.tag u).Carries ((l.foldl (fun s t => s.failTag t st) s).tag u)
  | [], _ => .refl _
  | c :: l, _ => (State.carries_failTag c st u).trans (State.carries_foldl_failTag st u l _)

theorem State.carries_activate (d : Drive) (c u : TagNo) : (s.tag u).Carries ((s.activate d c).tag u) := by
  by_cases hu : u = c
  · subst hu
    rcases (s.tag u).queued_or with ⟨r, p, hc⟩ | hc
    · rcases State.activate_tag (d := d) hc with ⟨ph, hx⟩ | ⟨x, hx, -⟩ <;> rw [hx, hc]
      · exact .work rfl (q := r) rfl rfl rfl rfl
      · exact .work rfl (q := r) rfl rfl rfl rfl
    · have hsame : s.activate d u = s := by
        unfold State.activate
        split
        · next r p hq => exact absurd hq (hc r p)
        · rfl
      rw [hsame]
      exact .refl _
  · rw [State.activate_tag_ne hu]
    exact .refl _

theorem State.carries_decide1 (d : Drive) (u : TagNo) : (s.tag u).Carries ((s.decide1 d).tag u) := by
  rcases hchoose : s.choose d with _ | c
  · simpa only [State.decide1, hchoose] using TagState.Carries.refl _
  · rw [State.decide1_eq hchoose]
    refine .trans ?_ (State.carries_activate d c.tag u)
    rcases (s.tag u).queued_or with ⟨q, n, hx⟩ | hx
    · rw [State.departs_tag_queued hx, hx]
      exact .work rfl (q := q) rfl rfl rfl rfl
    · rw [State.departs_tag_other hx]
      exact .refl _

theorem State.tagMove_freeTag (c u : TagNo) : TagMove a bd (s.tag u) ((s.freeTag c).tag u) := by
  obtain ⟨hself, hothers, -, -⟩ := State.freeTag_spec s c
  by_cases hu : u = c
  · rw [hu, hself]
    exact .frees
  · rw [hothers u hu]
    exact .carries (.refl _)

end TagMoves

/-- What a move of a scope can do to a tag. -/
theorem Move.tag {K : Scope} {s t : State} (hm : Move K s t) (u : TagNo) :
    TagMove (fun n => K.accepts u n) (fun b => (s.buffer b).binding = .tag u) (s.tag u) (t.tag u) := by
  have hcarries : (∀ v, (s.tag v).Carries (t.tag v)) → TagMove (fun n => K.accepts u n)
      (fun b => (s.buffer b).binding = .tag u) (s.tag u) (t.tag u) := fun h => .carries (h u)
  have hsame : t.tags = s.tags → TagMove (fun n => K.accepts u n)
      (fun b => (s.buffer b).binding = .tag u) (s.tag u) (t.tag u) := fun h => by
    rw [State.tag_congr h]
    exact .carries (.refl _)
  cases hm with
  | notice e kind tag =>
    refine hsame ?_
    rw [(State.addNotice_spec s e kind tag).rest]
  | event d ev => exact hsame (by rw [State.raiseEvent_eq])
  | reopens =>
    have htag := State.endSession_tag ({ s with session := nextSession s.session } : State) u
    generalize State.endSession _ = q at htag ⊢
    have hq : (q.announce .opened).tag u = q.tag u := rfl
    rw [hq, htag]
    split
    · exact .carries (.refl _)
    · exact .frees
  | decides d => exact hcarries (State.carries_decide1 d)
  | overtakes d new act newTag actTag n passed m hK hactive hnew hact =>
    refine hcarries fun v => ?_
    by_cases hvn : v = newTag
    · rw [hvn, State.overtake_tag_new, hnew]
      exact .work rfl (q := new) rfl rfl rfl rfl
    by_cases hva : v = actTag
    · rw [hva, State.overtake_tag_former (hva ▸ hvn), hact]
      exact .work rfl (q := act) rfl rfl rfl rfl
    · rw [State.overtake_tag_ne hvn hva]
      exact .refl _
  | joins d c w hK ht hfree hbound =>
    by_cases huc : u = c
    · subst huc
      have hself : (s.joinQueue d u w).tag u = .queued ⟨w, d, s.session, s.nextStamp, 0⟩ 0 :=
        State.tag_setTag _ u _
      rw [hself]
      exact .accepted (q := ⟨w, d, s.session, s.nextStamp, 0⟩) hfree rfl ht hbound
    · have hother : (s.joinQueue d c w).tag u = s.tag u := State.tag_setTag_ne _ huc _
      rw [hother]
      exact .carries (.refl _)
  | completes c d w ht hfree hw =>
    by_cases huc : u = c
    · subst huc
      obtain ⟨hdone, -, -, -, -⟩ := State.finish_spec ({ s with nextStamp := s.nextStamp + 1 } : State) u
        ⟨w, d, s.session, s.nextStamp, 0⟩ .ok
      exact .accepted (q := ⟨w, d, s.session, s.nextStamp, 0⟩) hfree (congrArg TagState.request? hdone) ht
        (by rw [hw]; nofun)
    · have hother : (s.acceptDone c d w).tag u = s.tag u := State.tag_setTag_ne _ huc _
      rw [hother]
      exact .carries (.refl _)
  | finishes c r st hc => exact hcarries (State.carries_finish (by rw [hc]; rfl) (by rw [hc]; rfl) st)
  | quits c r st hK hc =>
    refine hcarries fun v => State.carries_finish (s := s.leaveQueue r.drive c) ?_ ?_ st v
    · exact (congrArg TagState.request? hc).trans rfl
    · exact (congrArg TagState.inWork hc).trans rfl
  | fails d st => exact hcarries fun v => State.carries_foldl_failTag st v _ (s.setQueue d [])
  | phase c ph => exact hcarries (State.carries_setPhase c ph)
  | request c f hf =>
    refine hcarries (State.carries_onActive c fun r => ?_)
    obtain ⟨-, -, hstamp, hbuffer⟩ := hf r
    exact ⟨hstamp, hbuffer⟩
  | marks c r p ph m m' hc => exact hcarries (State.carries_setTag (hc ▸ .work rfl (q := r) rfl rfl rfl rfl))
  | releases c => exact State.tagMove_freeTag c u
  | withdraws c => exact State.tagMove_freeTag (s := s.withdrawReply c) c u
  | lets c r x hc => exact hcarries (State.carries_setTag (hc ▸ .of (q := r) rfl rfl rfl rfl fun _ => id))
  | resends c r x hc =>
    exact hcarries (State.carries_setTag (s := s) (x := .done r x)
      (hc ▸ .of (q := r) rfl rfl rfl rfl fun _ => id))
  | grants d c r p =>
    have hgrant : ((s.grantPass d c r).beginPass p).tag u = (s.setPhase c .pass).tag u := by
      rw [State.beginPass_eq]
      exact State.grantPass_tag_eq u
    rw [hgrant]
    exact .carries (State.carries_setPhase c .pass u)
  | refuses d c r =>
    have hgrant : (s.grantPass d c r).releaseBus.tag u = (s.setPhase c .pass).tag u :=
      State.grantPass_tag_eq u
    rw [hgrant]
    exact .carries (State.carries_setPhase c .pass u)
  | passEnds p b =>
    refine hsame ?_
    rw [State.dropPass_frame]
    rfl
  | _ => exact hsame rfl

/-! ### The record and the buffer of a request with a final status -/

/-- The buffer is bound to the tag, and no other request and no pass has it. -/
structure State.Guards (s : State) (u : TagNo) (b : BufNo) : Prop where
  binding : (s.buffer b).binding = .tag u
  others : ∀ v, v ≠ u → ∀ q, (s.tag v).request? = some q → q.work.buffer? ≠ some b
  pass : ∀ p, s.pass = some p → p.buffer ≠ some b

/-- What stands after a request has its final status: its record and its buffer's contents, until its tag is
FREE or, HELD, has a newly accepted request. -/
def State.Settled (s : State) (u : TagNo) (r : Request) (x : Final) (t : State) : Prop :=
  t.tag u = .free
  ∨ (s.tag u = .held r x ∧ ∃ new, (t.tag u).request? = some new ∧ new.stamp = s.nextStamp)
  ∨ ((t.tag u).final? = some (r, x)
    ∧ ∀ b, r.work.buffer? = some b → (t.buffer b).contents = (s.buffer b).contents)

/-- What the moves of a happening keep of it: the buffer stays guarded as well. -/
def State.Fixed (s : State) (u : TagNo) (r : Request) (x : Final) (t : State) : Prop :=
  t.tag u = .free
  ∨ (s.tag u = .held r x ∧ ∃ new, (t.tag u).request? = some new ∧ new.stamp = s.nextStamp)
  ∨ ((t.tag u).final? = some (r, x)
    ∧ ∀ b, r.work.buffer? = some b → t.Guards u b ∧ (t.buffer b).contents = (s.buffer b).contents)

theorem TagState.Carries.request_back {x y : TagState} (h : x.Carries y) {q : Request}
    (hq : y.request? = some q) : ∃ q', x.request? = some q' ∧ q.stamp = q'.stamp
      ∧ q.work.buffer? = q'.work.buffer? := by
  rcases hx : x.request? with _ | q'
  · have hfree : x = .free := by
      cases x with
      | free => rfl
      | _ => cases hx
    rw [h.free hfree] at hq
    cases hq
  · obtain ⟨q₁, hq₁, hstamp, hbuffer⟩ := h.request q' hx
    rw [hq] at hq₁
    cases hq₁
    exact ⟨q', rfl, hstamp, hbuffer⟩

theorem TagState.final?_request {x : TagState} {r : Request} {f : Final} (h : x.final? = some (r, f)) :
    x.request? = some r ∧ x.inWork = false ∧ x ≠ .free := by
  cases x with
  | free | queued | active => cases h
  | done | sending | held =>
    cases h
    exact ⟨rfl, rfl, nofun⟩

section Guards

variable {K : Scope} {s t : State} {u : TagNo} {b : BufNo}

theorem Request.duePass_buffer {r : Request} {c : TagNo} {p : Pass} (h : r.duePass c = some p) :
    p.buffer = r.work.buffer? := by
  obtain ⟨w, d, session, stamp, age⟩ := r
  cases w with
  | read | write | verify | format =>
    cases h
    rfl
  | _ => cases h

theorem State.Guards.freeTag (h : s.Guards u b) {c : TagNo} (hc : c ≠ u) : (s.freeTag c).buffer b = s.buffer b := by
  obtain ⟨-, -, hbuffer, -⟩ := State.freeTag_spec s c
  rw [hbuffer, if_neg]
  intro hbound
  obtain ⟨w, hw, hb⟩ := Option.bind_eq_some_iff.mp hbound
  obtain ⟨q, hq, rfl⟩ := Option.map_eq_some_iff.mp hw
  exact h.others c hc q hq hb

/-- A move that does not free the tag leaves its buffer to it, with the contents it has. -/
theorem Move.guards (hm : Move K s t) (h : s.Guards u b) {r : Request} {x : Final}
    (hfinal : (s.tag u).final? = some (r, x)) (hfree : t.tag u ≠ .free) :
    t.Guards u b ∧ (t.buffer b).contents = (s.buffer b).contents := by
  have hothers : ∀ v, v ≠ u → ∀ q, (t.tag v).request? = some q → q.work.buffer? ≠ some b := by
    intro v hv q hq
    have htag := hm.tag v
    generalize t.tag v = y at htag hq
    cases htag with
    | carries hcarries =>
      obtain ⟨q', hq', -, hbuffer⟩ := hcarries.request_back hq
      rw [hbuffer]
      exact h.others v hv q' hq'
    | frees => cases hq
    | accepted hx hy ha hb =>
      rw [hy] at hq
      cases hq
      intro hqb
      have hbound := hb b hqb
      rw [h.binding] at hbound
      exact hv (Binding.tag.inj hbound).symm
  have hkeep : t.buffer b = s.buffer b → (∀ p, t.pass = some p → p.buffer ≠ some b) →
      t.Guards u b ∧ (t.buffer b).contents = (s.buffer b).contents := fun hbuffer hpass =>
    ⟨⟨by rw [hbuffer]; exact h.binding, hothers, hpass⟩, by rw [hbuffer]⟩
  cases hm with
  | notice e kind tag =>
    have hrest := (State.addNotice_spec s e kind tag).rest
    exact hkeep (State.buffer_congr (by rw [hrest]) b) (by rw [hrest]; exact h.pass)
  | event d ev =>
    have hrest := State.raiseEvent_eq s d ev
    exact hkeep (State.buffer_congr (by rw [hrest]) b) (by rw [hrest]; exact h.pass)
  | reopens =>
    have htag := State.endSession_tag ({ s with session := nextSession s.session } : State) u
    have hbuffer := State.endSession_buffer_tag (s := { s with session := nextSession s.session }) (t := u)
      h.binding
    have hpass := State.endSession_pass ({ s with session := nextSession s.session } : State)
    generalize State.endSession _ = q at htag hbuffer hpass hfree hothers hkeep ⊢
    have hsending : (s.tag u).isSending = true := by
      by_contra hnot
      exact hfree (htag.trans (if_neg hnot))
    have hany : (s.pass.any fun p => p.buffer == some b) = false := by
      rw [Option.any_eq_false]
      exact fun p hp => by simpa using h.pass p hp
    refine hkeep ?_ fun p hp => ?_
    · have hq : (q.announce .opened).buffer b = q.buffer b := rfl
      rw [hq, hbuffer]
      show Buffer.mk (if (s.pass.any _) = true then _ else if (s.tag u).isSending = true then _ else _) _ = _
      rw [hany, if_neg Bool.false_ne_true, if_pos hsending, ← h.binding]
      rfl
    · have hmap : s.pass.map Pass.detach = some p := hpass.symm.trans hp
      obtain ⟨p', hp', rfl⟩ := Option.map_eq_some_iff.mp hmap
      exact h.pass p' hp'
  | decides d =>
    have hwork := State.decide1_workOnly s d
    exact hkeep (State.buffer_congr hwork.buffers b) (by rw [hwork.pass]; exact h.pass)
  | overtakes =>
    refine hkeep (State.buffer_congr (by rw [State.overtake_frame]) b) ?_
    rw [State.overtake_frame]
    exact h.pass
  | fails d st =>
    have hwork := (State.endRequests_driveWork s d st).work
    exact hkeep (State.buffer_congr hwork.buffers b) (by rw [hwork.pass]; exact h.pass)
  | phase c ph =>
    have hwork := State.setPhase_workOnly s c ph
    exact hkeep (State.buffer_congr hwork.buffers b) (by rw [hwork.pass]; exact h.pass)
  | request c f =>
    refine hkeep (State.buffer_congr (by rw [State.onActive_eq]) b) ?_
    rw [State.onActive_eq]
    exact h.pass
  | releases c =>
    have hc : c ≠ u := by
      rintro rfl
      exact hfree (State.freeTag_spec s c).1
    refine hkeep (h.freeTag hc) ?_
    rw [State.freeTag_frame]
    exact h.pass
  | withdraws c =>
    have hc : c ≠ u := by
      rintro rfl
      exact hfree (State.freeTag_spec (s.withdrawReply c) c).1
    have hq : (s.withdrawReply c).Guards u b := ⟨h.binding, h.others, h.pass⟩
    refine hkeep (hq.freeTag hc) ?_
    rw [State.freeTag_frame]
    exact h.pass
  | binds c b' hb' =>
    refine hkeep ?_ h.pass
    rw [State.buffer_bindBuffer_eq, if_neg]
    rintro rfl
    rw [h.binding] at hb'
    cases hb'
  | fills b' x hb' =>
    refine hkeep ?_ h.pass
    rw [State.buffer_fillBuffer_eq, if_neg]
    rintro rfl
    rcases hb' with ⟨p, hp, hpb⟩ | ⟨c, hc, hbound⟩
    · exact h.pass p hp hpb
    · rw [h.binding] at hbound
      cases hbound
      rw [hc] at hfinal
      cases hfinal
  | grants d c q p hholder hc hd hp =>
    have hbuffers : ((s.grantPass d c q).beginPass p).buffers = s.buffers := by
      rw [State.beginPass_eq, State.grantPass_frame]
    refine hkeep (State.buffer_congr hbuffers b) fun p' hp' => ?_
    rw [State.beginPass_eq] at hp'
    cases hp'
    rw [Request.duePass_buffer hp]
    refine h.others c ?_ q (by rw [hc]; rfl)
    rintro rfl
    rw [hc] at hfinal
    cases hfinal
  | refuses d c q =>
    have hbuffers : (s.grantPass d c q).releaseBus.buffers = s.buffers := by
      rw [State.grantPass_frame]
      rfl
    have hpass : (s.grantPass d c q).releaseBus.pass = s.pass := by
      rw [State.grantPass_frame]
      rfl
    exact hkeep (State.buffer_congr hbuffers b) (by rw [hpass]; exact h.pass)
  | passBody p body hp =>
    exact hkeep rfl fun p' hp' => by
      cases hp'
      exact h.pass p hp
  | closes p body hp =>
    exact hkeep rfl fun p' hp' => by
      cases hp'
      exact h.pass p hp
  | formats p fill completed n hp =>
    exact hkeep rfl fun p' hp' => by
      cases hp'
      exact h.pass p hp
  | passEnds p b' hp hb' =>
    refine hkeep ?_ fun p' hp' => ?_
    · rw [State.dropPass_buffer, if_neg]
      rcases hb' with rfl | rfl
      · nofun
      · exact h.pass p hp
    · rw [State.dropPass_frame] at hp'
      cases hp'
  | _ => exact hkeep rfl h.pass

end Guards

section Fixed

variable {s t : State} {u : TagNo} {r : Request} {x : Final}

theorem TagState.held_of_final {y : TagState} (h : y.final? = some (r, x)) (hbusy : y.busy = false) :
    y = .held r x := by
  cases y with
  | held =>
    cases h
    rfl
  | free | queued | active => cases h
  | done | sending => cases hbusy

/-- Every move of a command keeps what a final status has fixed. -/
theorem State.Fixed.move (hfinal : (s.tag u).final? = some (r, x)) {a b : State}
    (hm : Move s.anyScope a b) (h : s.Fixed u r x a) : s.Fixed u r x b := by
  have htag := hm.tag u
  by_cases hfree : b.tag u = .free
  · exact .inl hfree
  have haccepted : ∀ q, (b.tag u).request? = some q → s.anyScope.accepts u q.stamp →
      s.Fixed u r x b := fun q hq ha =>
    .inr (.inl ⟨TagState.held_of_final hfinal ha.1, q, hq, ha.2⟩)
  rcases h with ha | ⟨hheld, new, hnew, hstamp⟩ | ⟨ha, hbuffers⟩
  · generalize hy : b.tag u = y at htag hfree haccepted
    cases htag with
    | carries hcarries => exact absurd (hcarries.free ha) hfree
    | frees => exact absurd rfl hfree
    | accepted hx hq hacc => exact haccepted _ hq hacc
  · generalize hy : b.tag u = y at htag hfree haccepted
    cases htag with
    | carries hcarries =>
      obtain ⟨q, hq, hs, -⟩ := hcarries.request new hnew
      exact .inr (.inl ⟨hheld, q, hy ▸ hq, hs.trans hstamp⟩)
    | frees => exact absurd rfl hfree
    | accepted hx hq hacc => exact haccepted _ hq hacc
  · refine .inr (.inr ⟨?_, fun c hc => ?_⟩)
    · generalize b.tag u = y at htag hfree
      cases htag with
      | carries hcarries => exact hcarries.final _ ha
      | frees => exact absurd rfl hfree
      | accepted hx =>
        rw [hx] at ha
        cases ha
    · obtain ⟨hguards, hcontents⟩ := hbuffers c hc
      obtain ⟨hguards', hcontents'⟩ := hm.guards hguards ha hfree
      exact ⟨hguards', hcontents'.trans hcontents⟩

theorem State.Fixed.settled (h : s.Fixed u r x t) : s.Settled u r x t :=
  h.imp_right (Or.imp_right fun ⟨hf, hb⟩ => ⟨hf, fun b hc => (hb b hc).2⟩)

/-- The record goes on, and the buffers have the contents they had. -/
theorem State.Settled.carries {q : State} (h : s.Settled u r x q)
    (htag : (q.tag u).Carries (t.tag u) ∨ t.tag u = .free)
    (hcontents : ∀ b, (t.buffer b).contents = (q.buffer b).contents) : s.Settled u r x t := by
  rcases htag with hcarries | hfree
  · rcases h with hq | ⟨hheld, new, hnew, hstamp⟩ | ⟨hq, hbuffers⟩
    · exact .inl (hcarries.free hq)
    · obtain ⟨q', hq', hs, -⟩ := hcarries.request new hnew
      exact .inr (.inl ⟨hheld, q', hq', hs.trans hstamp⟩)
    · exact .inr (.inr ⟨hcarries.final _ hq, fun b hb => (hcontents b).trans (hbuffers b hb)⟩)
  · exact .inl hfree

theorem State.carries_send (e : Entry) (rest : List Entry) : (s.tag u).Carries ((s.send e rest).tag u) := by
  rw [State.send_tag_eq]
  unfold State.startSending
  split
  · split
    · next q _ hc =>
      exact State.carries_setTag (s := s.setList rest)
        (hc ▸ .of (q := q) rfl rfl rfl rfl fun _ => id) u
    · exact .refl _
  · exact .refl _

theorem State.Settled.beginFrame {q : State} (h : s.Settled u r x q) : s.Settled u r x q.beginFrame := by
  rcases q.beginFrame_cases with he | ⟨e, rest, -, -, -, -, he⟩ <;> rw [he]
  · exact h
  · refine h.carries (.inl (State.carries_send e rest)) fun b => ?_
    exact congrArg Buffer.contents (State.buffer_congr (by rw [State.send_frame]) b)

theorem State.Settled.refl (hfinal : (s.tag u).final? = some (r, x)) : s.Settled u r x s :=
  .inr (.inr ⟨hfinal, fun _ _ => rfl⟩)

/-- The end of a frame leaves the request of a REPLY HELD, or frees its tag (R23). -/
theorem State.Settled.frameOver (hfinal : (s.tag u).final? = some (r, x)) (f : TxFrame) :
    s.Settled u r x (s.frameOver f) := by
  unfold State.frameOver
  split
  · next c _ =>
    have hbase : ({ s with tx := none } : State).Settled u r x { s with tx := none } :=
      State.Settled.refl hfinal
    unfold State.replySent
    split
    · next q _ _ hc =>
      split
      · obtain ⟨hself, hothers, hbuffers, -⟩ := State.freeTag_spec ({ s with tx := none } : State) c
        refine State.Settled.carries (State.Settled.refl hfinal) ?_ fun b => ?_
        · by_cases huc : u = c
          · exact .inr (huc ▸ hself)
          · rw [hothers u huc]
            exact .inl (.refl _)
        · rw [hbuffers]
          split <;> rfl
      · refine State.Settled.carries (State.Settled.refl hfinal) (.inl ?_) fun b => rfl
        exact State.carries_setTag (s := { s with tx := none })
          (hc ▸ .of (q := q) rfl rfl rfl rfl fun _ => id) u
    · exact State.Settled.refl hfinal
  · exact State.Settled.refl hfinal

/-- Between happenings the buffer of a request with a final status is guarded (R127). -/
theorem State.WorkOk.guards (hw : s.WorkOk) (hfinal : (s.tag u).final? = some (r, x)) {b : BufNo}
    (hb : r.work.buffer? = some b) : s.Guards u b := by
  have hrequest := (TagState.final?_request hfinal).1
  have hbound : ∀ v q, (s.tag v).request? = some q → q.work.buffer? = some b →
      (s.buffer b).binding = .tag v := fun v q hq hqb =>
    (hw.bound b v).mpr (by rw [State.work?, hq]; exact hqb)
  have hbinding := hbound u r hrequest hb
  refine ⟨hbinding, fun v hv q hq hqb => ?_, fun p hp hpb => ?_⟩
  · have hv' := hbound v q hq hqb
    rw [hbinding] at hv'
    exact hv (Binding.tag.inj hv').symm
  · cases howner : p.owner with
    | detached =>
      have hdetached := (hw.boundDetached b).mpr (by rw [hp]; simp [howner, hpb])
      rw [hbinding] at hdetached
      cases hdetached
    | tag v =>
      have hactive := (hw.passOwner p hp).2 v howner
      obtain ⟨q, c, ph, m, hv, hd⟩ : ∃ q c ph m, s.tag v = .active q c ph m ∧ q.drive = p.drive := by
        cases hx : s.tag v with
        | active q c ph m =>
          rw [hx] at hactive
          exact ⟨q, c, ph, m, rfl, beq_iff_eq.mp hactive⟩
        | _ =>
          rw [hx] at hactive
          cases hactive
      have hon : s.passOn q.drive = true := State.passOn_iff.mpr ⟨p, hp, hd.symm⟩
      have hfits := (hw.active v q c ph m hv).1
      have hbuffer : p.buffer = q.work.buffer? := by
        cases ph with
        | pass =>
          simp only [State.phaseFits, hp, Option.any_some, Bool.and_eq_true, Pass.fits, beq_iff_eq] at hfits
          exact hfits.2.2.1
        | position | settle | rotate => simp [State.phaseFits, hon] at hfits
      have hv' := hbound v q (by rw [hv]; rfl) (hbuffer ▸ hpb)
      rw [hbinding] at hv'
      obtain rfl := Binding.tag.inj hv'
      rw [hv] at hfinal
      cases hfinal

end Fixed

theorem exec_held {s : State} {c : Instr} (h : s.resetHold ≠ none) (hc : c.isSignal = false) :
    exec c s = .next s := by
  cases c with
  | resetBegin | hardwareReset | holdAsserted | holdDeasserted | frameEnd => cases hc
  | _ => exact congrArg Host.Outcome.next (State.unlessHeld_some h)

theorem reachedAt_seek (target : Nat) (st : Status) (h : HeadState) : reachedAt (.seek target) st h
    = if st = .ok then some target else if st = .seekFail then none else h.standing := by
  cases st <;> rfl

theorem reachedAt_recal (st : Status) (h : HeadState) : reachedAt .recal st h
    = if st = .ok then some 0 else if st = .seekFail then none else h.standing := by
  cases st <;> rfl

/-- Settles O33: entry to DONE writes the record once, and no move touches it or its buffer afterwards. -/
theorem trackReachedIsFixed : Obligations.TrackReachedIsFixed := by
  refine ⟨fun s t r p st ht => ?_, fun c s t u r x hs hexec hfinal => ?_⟩
  · have hfinish : s.finishTag t st = s.finish t r st := by
      rcases ht with ht | ⟨ph, m, ht⟩
      · exact State.finishTag_queued ht
      · exact State.finishTag_active ht
    obtain ⟨hself, hothers, hlist, hstall, hframe⟩ := State.finish_spec s t r st
    intro landed
    refine ⟨s.finish t r st, hfinish, ?_, hothers, hlist, hstall, hlist ▸ hframe⟩
    rw [hself]
    have hlanded : ∀ target, landed target = if st = .ok then some target
        else if st = .seekFail then none else (s.drive r.drive).head.state.standing := fun target => by
      show (if st = .ok then _ else if st = .seekFail then _ else _) = _
      cases (s.drive r.drive).head.state <;> rfl
    cases r.work with
    | seek target =>
      exact congrArg (fun x => TagState.done r ⟨st, x⟩) ((reachedAt_seek _ _ _).trans (hlanded target).symm)
    | recal =>
      exact congrArg (fun x => TagState.done r ⟨st, x⟩) ((reachedAt_recal _ _).trans (hlanded 0).symm)
    | _ => rfl
  · show s.Settled u r x t
    by_cases hc : c.isSignal = true
    case neg =>
      have hc : c.isSignal = false := by simpa using hc
      by_cases hheld : s.resetHold = none
      · have hstart : s.Fixed u r x s := .inr (.inr ⟨hfinal, fun b hb =>
          ⟨(hs.work hheld).guards hfinal hb, rfl⟩⟩)
        obtain ⟨q, hq, hend⟩ := exec_leads hc hexec
        have hfixed := hq.keeps (P := s.Fixed u r x) (fun a b hm => State.Fixed.move hfinal hm) hstart
        rcases hend with rfl | ⟨rfl, -⟩
        · exact hfixed.settled.beginFrame
        · exact hfixed.settled
      · rw [exec_held hheld hc] at hexec
        cases hexec
        exact State.Settled.refl hfinal
    case pos =>
      cases c with
      | resetBegin | holdAsserted => cases hexec; exact State.Settled.refl hfinal
      | holdDeasserted =>
        cases hexec
        exact State.Settled.beginFrame (State.Settled.refl hfinal)
      | hardwareReset rate1 rate0 =>
        cases hexec
        have hfree : (s.afterReset rate1 rate0).tag u = .free := Vector.getElem_replicate _
        exact State.Settled.beginFrame (.inl hfree)
      | frameEnd =>
        rcases exec_frameEnd hexec with rfl | ⟨f, -, -, rfl⟩
        · exact State.Settled.refl hfinal
        · exact (State.Settled.frameOver hfinal f).beginFrame
      | _ => cases hc

end Sys2Proof.Machine

/-! ## A coherent state that a step does not keep

`State.Coherent` admits a QUEUED request of a kind that is never queued: a DEFINE, with the track 0. When the
drive's spin-up ends with its head AT track 0, the decision sends it to ROTATE, where it waits for no pulse. -/

namespace Sys2Proof.Machine

/-- A record in the ranges of Table 3-2. -/
def spinRecord : DriveRecord :=
  { tracks := 80, sides := 2, sectors := 16, stepInterval := 6, settleTime := 15, runOn := 20,
    spinUpLimit := 15, retryLimit := 2, ageLimit := 3, compTrack := 40 }

/-- A DEFINE on tag 0 that stands in a queue. -/
def strayDefine : Request := ⟨.define, .d0, 1, 0, 0⟩

/-- Drive 0 in spin-up, its head AT track 0 and one stable revolution of sixteen sectors counted, with the
stray request in its queue and the index pulse that ends the spin-up waiting. -/
def strayQueue : State :=
  { State.reset with
    session := 1
    tags := (Vector.replicate 16 .free).set 0 (.queued strayDefine 0)
    nextStamp := 1
    units :=
      ⟨{ record := some spinRecord, stats := .zero, queue := [0], sweep := .inward,
         spindle :=
          { motor := true, condition := .starting, media := .unknown, position := .unknown, period := none,
            revCount := none, measure := some ⟨true, some 1668, 16⟩, spinUpTimer := some 15000,
            watchdog := none, runOnTimer := none }
         head := ⟨.onTrack 0, some 0, none, none, none⟩ }, .fresh⟩
    pending := [.indexPulse State.reset.levels .d0 1668] }

theorem strayQueue_tag (t : TagNo) :
    strayQueue.tag t = if t = 0 then .queued strayDefine 0 else .free := by
  fin_cases t <;> rfl

theorem strayQueue_buffer (b : BufNo) : (strayQueue.buffer b).binding = .free := by
  fin_cases b <;> rfl

theorem strayQueue_tag_ne {t : TagNo} (h : t ≠ 0) : strayQueue.tag t = .free := by
  rw [strayQueue_tag, if_neg h]

theorem strayQueue_queue (d : Drive) : (strayQueue.drive d).queue = if d = .d0 then [0] else [] := by
  cases d <;> rfl

theorem strayQueue_queuedOn {d : Drive} {t : TagNo} :
    (strayQueue.tag t).queuedOn d = true ↔ d = .d0 ∧ t = 0 := by
  by_cases h : t = 0
  · subst h
    cases d <;> decide
  · simp [strayQueue_tag_ne h, TagState.queuedOn, h]

theorem strayQueue_activeOn (d : Drive) (t : TagNo) : (strayQueue.tag t).activeOn d = false := by
  rw [strayQueue_tag]
  split <;> rfl

theorem strayQueue_request {t : TagNo} {r : Request} (h : (strayQueue.tag t).request? = some r) :
    t = 0 ∧ r = strayDefine := by
  rw [strayQueue_tag] at h
  by_cases ht : t = 0
  · rw [if_pos ht] at h
    exact ⟨ht, (Option.some.inj h).symm⟩
  · rw [if_neg ht] at h
    cases h

theorem strayQueue_not_active (t : TagNo) (r : Request) (p : Nat) (ph : Phase) (m : Bool) :
    strayQueue.tag t ≠ .active r p ph m := by
  rw [strayQueue_tag]
  split <;> exact nofun

theorem strayQueue_no_motion (d : Drive) (m : Motion) : (strayQueue.drive d).head.motion ≠ some m := by
  cases d <;> exact nofun

theorem strayQueue_transmitOk : strayQueue.TransmitOk where
  notices := Nat.zero_le _
  started := Nat.zero_le _
  events := fun _ => Nat.zero_le _
  replies := fun t => by
    rw [strayQueue_tag]
    split <;> rfl
  entries := nofun
  stall := fun _ => rfl
  sending := fun _ t => by
    rw [strayQueue_tag]
    split <;> rfl
  idle := fun _ => nofun

theorem strayQueue_busOk : strayQueue.BusOk where
  selected := by intro d; cases d <;> rfl
  passHolds := nofun
  stepHolds := fun d m h => absurd h (strayQueue_no_motion d m)
  gate := rfl
  comp := nofun
  data := fun _ => rfl

theorem strayQueue_queueOk : strayQueue.QueueOk where
  member := fun d t => by
    rw [strayQueue_queuedOn, strayQueue_queue]
    split <;> simp [*]
  nodup := fun d => by
    rw [strayQueue_queue]
    split <;> simp
  order := fun d => by
    rw [strayQueue_queue]
    split <;> simp
  stamps := fun t r h => by
    rw [(strayQueue_request h).2]
    decide
  single := fun d t u h => by
    rw [strayQueue_activeOn] at h
    cases h
  aged := fun d t _ => by
    rw [strayQueue_tag]
    split <;> exact Nat.zero_le _

theorem strayQueue_drivesOk : strayQueue.DrivesOk where
  record := by
    intro d
    cases d
    · exact (by decide : spinRecord.inRange = true)
    · rfl
  spindle := by intro d; cases d <;> rfl
  stats := by intro d; cases d <;> rfl

theorem strayQueue_workOk : strayQueue.WorkOk where
  active := fun t r p ph m h => absurd h (strayQueue_not_active t r p ph m)
  tracks := by
    intro d t h w hw
    obtain ⟨r, hr, rfl⟩ := Option.map_eq_some_iff.mp hw
    obtain ⟨rfl, rfl⟩ := strayQueue_request hr
    obtain ⟨rfl, -⟩ := strayQueue_queuedOn.mp (h.resolve_right (by rw [strayQueue_activeOn]; nofun))
    decide
  motionOwner := fun d m h => absurd h (strayQueue_no_motion d m)
  passOwner := nofun
  detachedMotion := fun d m h => absurd h (strayQueue_no_motion d m)
  detachedPass := nofun
  head := by intro d; cases d <;> rfl
  idleWork := fun d h => by cases d <;> cases h
  runOn := fun d h => by cases d <;> cases h
  waiting := fun d h => by
    cases d
    · exact .inl rfl
    · exact absurd rfl h
  defined := by
    intro d
    cases d
    · exact ⟨(by decide : spinRecord.inRange = true), nofun⟩
    · rfl
  reserved := nofun
  held := nofun
  granted := fun _ => rfl
  bound := fun b t => by
    rw [strayQueue_buffer, State.work?, strayQueue_tag]
    split <;> exact ⟨nofun, nofun⟩
  boundDetached := fun b => by
    rw [strayQueue_buffer]
    exact ⟨nofun, nofun⟩
  closed := nofun
  accepted := fun t r h _ => by rw [(strayQueue_request h).2]; rfl

theorem strayQueue_coherent : strayQueue.Coherent where
  transmit := strayQueue_transmitOk
  receiver := rfl
  bus := strayQueue_busOk
  queues := strayQueue_queueOk
  drives := strayQueue_drivesOk
  work := fun _ => strayQueue_workOk

/-- The state after the index pulse that ends the spin-up. -/
def strayStarted : State :=
  ((({ strayQueue with pending := [] } : State).withLevels State.reset.levels).indexPulse .d0 1668)

theorem step_strayQueue : step strayQueue = .next strayStarted := rfl

theorem strayStarted_tag : strayStarted.tag 0 = .active strayDefine 0 .rotate false := rfl

/-- Refutes O60: from a coherent state the end of a spin-up leaves a DEFINE ACTIVE in ROTATE, waiting for no
starting pulse. -/
theorem not_coherentIsKept : ¬ Obligations.CoherentIsKept := by
  intro h
  have hwork := (h _ _ strayQueue_coherent step_strayQueue).work rfl
  obtain ⟨hfits, -, -⟩ := hwork.active 0 _ _ _ _ strayStarted_tag
  simp [State.phaseFits, strayDefine, Work.startingPulse] at hfits

end Sys2Proof.Machine

/-! ## Hardware reset and the queue of commands -/

namespace Sys2Proof.Machine

/-- Settles O1: it is the definition of a step, case by case of the queue. -/
theorem stepRunsFrontCommand : Obligations.StepRunsFrontCommand := by
  refine ⟨fun s c rest h => ?_, fun s h => ?_⟩
  · simp only [step, h]
  · simp only [step, h]

/-! ### The state after reset -/

@[simp] theorem State.reset_tag (t : TagNo) : State.reset.tag t = .free := by
  fin_cases t <;> rfl

@[simp] theorem State.reset_drive (d : Drive) : State.reset.drive d = .fresh := by cases d <;> rfl

theorem State.reset_buffer (b : BufNo) : (State.reset.buffer b).binding = .free := by
  fin_cases b <;> rfl

theorem State.reset_transmitOk : State.reset.TransmitOk where
  notices := Nat.zero_le _
  started := by decide
  events := fun _ => Nat.zero_le _
  replies := fun t => by
    rw [State.reset_tag]
    rfl
  entries := by decide
  stall := fun _ => rfl
  sending := fun _ t => by
    rw [State.reset_tag]
    rfl
  idle := by decide

theorem State.reset_busOk : State.reset.BusOk where
  selected := by intro d; cases d <;> rfl
  passHolds := nofun
  stepHolds := fun d m h => by
    rw [State.reset_drive] at h
    cases h
  gate := rfl
  comp := nofun
  data := fun _ => rfl

theorem State.reset_queueOk : State.reset.QueueOk where
  member := fun d t => by simp [DriveUnit.fresh, TagState.queuedOn]
  nodup := fun d => by simp [DriveUnit.fresh]
  order := fun d => by simp [DriveUnit.fresh]
  stamps := fun t r h => by simp [TagState.request?] at h
  single := fun d => by simp [TagState.activeOn]
  aged := fun d => by simp [TagState.passed]

theorem State.reset_drivesOk : State.reset.DrivesOk where
  record := fun d => by
    rw [State.reset_drive]
    rfl
  spindle := fun d => by
    rw [State.reset_drive]
    rfl
  stats := fun d => by
    rw [State.reset_drive]
    rfl

theorem State.reset_workOk : State.reset.WorkOk where
  active := fun t r p ph m h => by simp at h
  tracks := fun d t h => by simp [TagState.queuedOn, TagState.activeOn] at h
  motionOwner := fun d m h => by simp [DriveUnit.fresh, Head.lost] at h
  passOwner := nofun
  detachedMotion := fun d m h => by simp [DriveUnit.fresh, Head.lost] at h
  detachedPass := nofun
  head := fun d => by
    rw [State.reset_drive]
    rfl
  idleWork := fun d h => by simp [State.isTurning, DriveUnit.fresh, Spindle.still] at h
  runOn := fun d h => by simp [DriveUnit.fresh, Spindle.still] at h
  waiting := fun d h => by simp [DriveUnit.fresh] at h
  defined := fun d => by
    rw [State.reset_drive]
    rfl
  reserved := nofun
  held := nofun
  granted := fun _ => rfl
  bound := fun b t => by simp [State.reset_buffer, State.work?, TagState.request?]
  boundDetached := fun b => by
    rw [State.reset_buffer]
    exact ⟨nofun, nofun⟩
  closed := fun _ => ⟨State.reset_tag, rfl, rfl⟩
  accepted := fun t r h => by simp [TagState.request?] at h

/-- Settles O3: the reset state meets the invariants block by block. -/
theorem resetIsCoherent : Obligations.ResetIsCoherent where
  transmit := State.reset_transmitOk
  receiver := rfl
  bus := State.reset_busOk
  queues := State.reset_queueOk
  drives := State.reset_drivesOk
  work := fun _ => State.reset_workOk

/-! ### Frames on TXD -/

/-- The frame of an entry, with the content that current state gives (R142, R147, R149). -/
def State.txFrame (s : State) (e : Entry) : TxFrame := ⟨e.reply?, onLine (framed (s.compose e))⟩

theorem State.send_tx (s : State) (e : Entry) (rest : List Entry) : (s.send e rest).tx = some (s.txFrame e) := by
  rw [State.txFrame, ← characters_eq_onLine, ← lineBytes_eq_framed]
  rfl

theorem State.send_list (s : State) (e : Entry) (rest : List Entry) : (s.send e rest).list = rest := by
  rw [State.send, State.startSending_eq]
  rfl

theorem State.send_stall (s : State) (e : Entry) (rest : List Entry) :
    (s.send e rest).stall = decide (4 ≤ noticeCount rest) := by
  rw [State.send, State.startSending_eq]
  rfl

theorem State.beginFrame_ready {s : State} {e : Entry} {rest : List Entry} (htx : s.tx = none)
    (hhold : s.hold = false) (hheld : s.resetHold = none) (hlist : s.list = e :: rest) :
    s.beginFrame = s.send e rest := by
  simp only [State.beginFrame, htx, hhold, hheld, hlist, and_self, if_true]

/-! ### The two reset commands -/

theorem heldCause_eq (held : Option ResetCause) (cause : ResetCause) :
    heldCause held cause = if held = some .power then .power else cause := by
  rcases held with _ | _ | _ <;> rfl

/-- RESTARTED begins at once when HOLD is not asserted (R146, R163). -/
theorem State.leaveReset_begins {s : State} (rate1 rate0 : Bool) (hhold : s.hold = false) :
    s.leaveReset rate1 rate0 = { s.afterReset rate1 rate0 with
      list := []
      tx := some ((s.afterReset rate1 rate0).txFrame (.started (.restarted (s.resetHold.getD .line)))) } := by
  rw [State.leaveReset_eq, State.beginFrame_ready (s := s.afterReset rate1 rate0) rfl hhold rfl rfl, ← State.send_tx (rest := [])]
  rfl

theorem State.leaveReset_waits {s : State} (rate1 rate0 : Bool) (hhold : s.hold = true) :
    s.leaveReset rate1 rate0 = s.afterReset rate1 rate0 := by
  rw [State.leaveReset_eq, State.beginFrame_not_ready (s := s.afterReset rate1 rate0) (.inr (.inl hhold))]

theorem State.afterReset_tag (s : State) (rate1 rate0 : Bool) (t : TagNo) :
    (s.afterReset rate1 rate0).tag t = .free := by
  simp [State.afterReset, State.tag]

theorem State.afterReset_buffer (s : State) (rate1 rate0 : Bool) (b : BufNo) :
    ((s.afterReset rate1 rate0).buffer b).binding = .free := by
  simp [State.afterReset, State.buffer, freshBuffer]

theorem State.reset_tx :
    State.reset.tx = some (State.reset.txFrame (.started (.restarted .power))) := by
  rw [State.txFrame, ← characters_eq_onLine, ← lineBytes_eq_framed]
  rfl

/-- Settles O4: the two resets write every field but the model's own. -/
theorem powerUpReachesReset : Obligations.PowerUpReachesReset := by
  intro s hhold
  have hcause : heldCause s.resetHold .power = .power := by rw [heldCause_eq, ite_self]
  have hleft := State.leaveReset_begins (s := s.beginReset .power) false false hhold
  refine ⟨_, _, rfl, rfl, ?_, fun b => ?_⟩
  · rw [hleft]
    have htx : State.reset.tx = some (((s.beginReset .power).afterReset false false).txFrame
        (.started (.restarted ((s.beginReset .power).resetHold.getD .line)))) := by
      rw [State.reset_tx]
      simp only [State.beginReset, hcause]
      rfl
    rw [← htx]
    simp only [State.afterReset, State.beginReset, State.releaseBus_hold, hhold]
    rfl
  · rw [hleft]
    exact State.afterReset_buffer (s.beginReset .power) false false b

/-- The seven bytes of RESTARTED before its check (Table 12-5). -/
theorem State.compose_restarted (s : State) (cause : ResetCause) :
    s.compose (.started (.restarted cause)) =
      sealContent [0x81, s.session, 0xFF, 0x2C, 0x14, 0x03, if cause = .power then 0x01 else 0x02] := by
  cases cause <;> rfl

theorem restarted_cause (held : Option ResetCause) :
    (held.getD .line = ResetCause.power) ↔ held = some .power := by
  rcases held with _ | _ | _ <;> simp

/-- Settles O5: the blocks are written outright, and RESTARTED begins exactly when HOLD lets it. -/
theorem hardwareResetAnnounces : Obligations.HardwareResetAnnounces := by
  intro s rate1 rate0
  have hfresh : ∀ d, (s.afterReset rate1 rate0).drive d = .fresh := fun d => by cases d <;> rfl
  refine ⟨_, rfl, ?_⟩
  rcases hhold : s.hold with _ | _
  · rw [State.leaveReset_begins _ _ hhold]
    refine ⟨rfl, s.afterReset_tag rate1 rate0, rfl, hfresh, rfl, rfl, rfl, rfl, rfl, rfl, rfl, rfl, rfl,
      hhold, s.afterReset_buffer rate1 rate0, ?_, nofun, fun _ => ⟨rfl, ?_⟩⟩
    · cases rate1 <;> cases rate0 <;> rfl
    · simp only [State.txFrame, State.compose_restarted, restarted_cause]
      rfl
  · rw [State.leaveReset_waits _ _ hhold]
    refine ⟨rfl, s.afterReset_tag rate1 rate0, rfl, hfresh, rfl, rfl, rfl, rfl, rfl, rfl, rfl, rfl, rfl,
      hhold, s.afterReset_buffer rate1 rate0, ?_, fun _ => ⟨rfl, rfl⟩, nofun⟩
    cases rate1 <;> cases rate0 <;> rfl

/-- Settles O6: every line and every piece of work under way is written by RESET_BEGIN. -/
theorem resetBeginReleasesLines : Obligations.ResetBeginReleasesLines := by
  intro s cause
  refine ⟨_, rfl, fun d => ?_, rfl, rfl, rfl, rfl, rfl, rfl, rfl, rfl, rfl, ?_⟩
  · cases d <;> exact ⟨rfl, rfl, rfl⟩
  · exact congrArg some (heldCause_eq s.resetHold cause)

/-- Settles O7: HOLD's own commands set its level, and every other command asks whether the part is held. -/
theorem heldPartTakesNothing : Obligations.HeldPartTakesNothing := by
  intro c s hheld hbegin hreset
  by_cases hc : c.isSignal = true
  case neg =>
    have hasserted : c ≠ .holdAsserted := by rintro rfl; exact hc rfl
    have hdeasserted : c ≠ .holdDeasserted := by rintro rfl; exact hc rfl
    rw [exec_held hheld (by simpa using hc), if_neg hasserted, if_neg hdeasserted]
  case pos =>
    cases c with
    | resetBegin cause => exact absurd rfl (hbegin cause)
    | hardwareReset rate1 rate0 => exact absurd rfl (hreset rate1 rate0)
    | holdAsserted => rfl
    | holdDeasserted =>
      exact congrArg Host.Outcome.next (State.beginFrame_not_ready (s := { s with hold := false })
        (.inr (.inr (.inl hheld))))
    | frameEnd => exact congrArg Host.Outcome.next (State.unlessHeld_some hheld)
    | _ => cases hc

end Sys2Proof.Machine

/-! ## The receiver: characters, link faults and the hand-off -/

namespace Sys2Proof.Machine

variable {s : State} {lv : Levels} {b : Byte} {stopBit : Bool} {content : List Byte}

theorem exec_rxByte (hheld : s.resetHold = none) (lv : Levels) (b : Byte) (stopBit : Bool) :
    exec (.rxByte lv (dataOf b) stopBit) s = .next ((s.withLevels lv).takeChar b stopBit) := by
  show Host.Outcome.next (s.unlessHeld fun s => (s.withLevels lv).takeChar (byteOfData (dataOf b).val) stopBit) = _
  rw [State.unlessHeld_none hheld, byteOfData_dataOf]

/-! ### What each character does by the state of the receiver -/

theorem State.receive_gather_append (s : State) (content : List Byte) (b : Byte) :
    s.receive (.gather (content ++ [b])) = { s with rx := ⟨.gather (content ++ [b]), some 32⟩ } := by
  cases content <;> rfl

theorem State.gatherByte_fits (b : Byte) (h : content.length < 268) :
    s.gatherByte content b = s.receive (.gather (content ++ [b])) := if_pos h

theorem State.gatherByte_long (b : Byte) (h : ¬ content.length < 268) :
    s.gatherByte content b = s.linkFault .long .idle := if_neg h

theorem State.takeChar_idle (h : s.rx.phase = .idle) :
    s.takeChar b stopBit = if stopBit = true ∧ b = 0xF9 then s.receive (.gather []) else s := by
  simp [State.takeChar, h, mark]

theorem State.takeChar_gather (h : s.rx.phase = .gather content) :
    s.takeChar b true =
      if b = 0xF9 then (if content = [] then s.receive (.gather []) else s.judge content)
      else if b = 0xF8 then s.receive (.escape content)
      else s.gatherByte content b := by
  simp only [State.takeChar, h, Bool.true_eq_false, if_false]
  rfl

theorem State.takeChar_escape (h : s.rx.phase = .escape content) :
    s.takeChar b true =
      if b = 0xD8 then s.gatherByte content 0xF8
      else if b = 0xD9 then s.gatherByte content 0xF9
      else if b = 0xF9 then s.linkFault .badEscape (.gather [])
      else s.linkFault .badEscape .idle := by
  simp only [State.takeChar, h, Bool.true_eq_false, if_false]
  rfl

/-- A character without its stop bit is a LINE fault outside IDLE (R148). -/
theorem State.takeChar_broken (h : s.rx.phase ≠ .idle) : s.takeChar b false = s.linkFault .line .idle := by
  rcases hx : s.rx.phase with _ | content | content
  · exact absurd hx h
  · simp [State.takeChar, hx]
  · simp [State.takeChar, hx]

theorem dataOf_surjective (data : Bits 8) : ∃ b, data = dataOf b := by
  obtain ⟨l, hl⟩ := data
  match l, hl with
  | [a0, a1, a2, a3, a4, a5, a6, a7], _ =>
    refine ⟨byteOfData [a0, a1, a2, a3, a4, a5, a6, a7], Subtype.ext ?_⟩
    revert a0 a1 a2 a3 a4 a5 a6 a7
    decide

/-- Settles O8: Table 10-2 read off the receiver's branches. -/
theorem receiverTakesCharacters : Obligations.ReceiverTakesCharacters := by
  refine ⟨dataOf_surjective, fun s lv b stopBit content hheld => ?_⟩
  simp only [exec_rxByte hheld]
  refine ⟨fun h => ?_, fun h => ?_, fun h => ?_, fun h hlen hmark hesc => ?_, fun h hlen hb => ?_⟩
  · rw [State.takeChar_idle (s := s.withLevels lv) h]
    split <;> rfl
  · rw [State.takeChar_gather (s := s.withLevels lv) h, if_pos rfl, if_pos rfl]
    rfl
  · rw [State.takeChar_gather (s := s.withLevels lv) h, if_neg (by decide), if_pos rfl]
    rfl
  · rw [State.takeChar_gather (s := s.withLevels lv) h, if_neg hmark, if_neg hesc,
      State.gatherByte_fits b hlen, State.receive_gather_append]
    rfl
  · rw [State.takeChar_escape (s := s.withLevels lv) h]
    rcases hb with rfl | rfl
    · rw [if_pos (by decide), State.gatherByte_fits _ hlen, State.receive_gather_append]
      rfl
    · rw [if_neg (by decide), if_pos (by decide), State.gatherByte_fits _ hlen,
        State.receive_gather_append]
      rfl

/-! ### Link faults -/

theorem State.linkFault_notices (s : State) (reason : Reason) (ph : RxPhase) :
    ∃ q : State, s.linkFault reason ph = q.endHappening ∧ (s.receive ph).Notices q reason 0x00 0xFF :=
  ⟨_, rfl, State.addNotice_spec _ _ _ _⟩

theorem State.gatherByte_fault {reason : Reason} {after : RxPhase} (b : Byte)
    (h : (if content.length < 268 then none else some (Reason.long, RxPhase.idle)) = some (reason, after)) :
    s.gatherByte content b = s.linkFault reason after := by
  by_cases hlen : content.length < 268
  · rw [if_pos hlen] at h
    cases h
  · rw [if_neg hlen] at h
    cases h
    exact State.gatherByte_long b hlen

/-- A closing mark that hands nothing on: SHORT before CHECK (R156). -/
theorem State.judge_fault {reason : Reason} {after : RxPhase}
    (h : (if content.length < 5 then some (Reason.short, RxPhase.gather [])
      else if linkCheck (contentBody content) ≠ contentCheck content then some (.check, .gather [])
      else none) = some (reason, after)) : s.judge content = s.linkFault reason after := by
  unfold State.judge
  by_cases hshort : content.length < 5
  · rw [if_pos hshort] at h ⊢
    cases h
    rfl
  · rw [if_neg hshort] at h ⊢
    by_cases hcheck : linkCheck (contentBody content) ≠ contentCheck content
    · rw [if_pos hcheck] at h ⊢
      cases h
      rfl
    · rw [if_neg hcheck] at h
      cases h

/-- A link fault leaves the receiver in IDLE or between frames (Table 10-3). -/
theorem RxPhase.faultOn_after {x : RxPhase} {reason : Reason} {after : RxPhase}
    (h : x.faultOn b stopBit = some (reason, after)) : after = .idle ∨ after = .gather [] := by
  unfold RxPhase.faultOn at h
  split at h
  · cases h
  all_goals
    repeat' split at h
    all_goals cases h
    all_goals simp

/-- A character that makes a link fault is answered by that fault alone (Table 10-3). -/
theorem State.takeChar_fault {reason : Reason} {after : RxPhase}
    (h : s.rx.phase.faultOn b stopBit = some (reason, after)) :
    s.takeChar b stopBit = s.linkFault reason after := by
  rcases hx : s.rx.phase with _ | content | content <;> rw [hx] at h
  case idle => cases h
  all_goals
    cases stopBit
    case false =>
      rw [State.takeChar_broken (by rw [hx]; nofun)]
      cases h
      rfl
  case gather.true =>
    rw [State.takeChar_gather hx]
    simp only [RxPhase.faultOn, Bool.true_eq_false, if_false] at h
    by_cases hmark : b = 0xF9
    · rw [if_pos hmark] at h ⊢
      by_cases hempty : content = []
      · simp [hempty] at h
      · rw [if_neg (by simpa using hempty)] at h
        rw [if_neg hempty]
        exact State.judge_fault h
    · rw [if_neg hmark] at h ⊢
      by_cases hesc : b = 0xF8
      · rw [if_pos hesc] at h
        cases h
      · rw [if_neg hesc] at h ⊢
        exact State.gatherByte_fault b h
  case escape.true =>
    rw [State.takeChar_escape hx]
    simp only [RxPhase.faultOn, Bool.true_eq_false, if_false] at h
    by_cases hF8 : b = 0xD8
    · rw [if_neg (by rw [hF8]; decide), if_pos (.inl hF8)] at h
      rw [if_pos hF8]
      exact State.gatherByte_fault _ h
    · by_cases hF9 : b = 0xD9
      · rw [if_neg (by rw [hF9]; decide), if_pos (.inr hF9)] at h
        rw [if_neg hF8, if_pos hF9]
        exact State.gatherByte_fault _ h
      · rw [if_neg hF8, if_neg hF9]
        by_cases hmark : b = 0xF9
        · rw [if_pos hmark] at h ⊢
          cases h
          rfl
        · rw [if_neg hmark, if_neg (not_or.mpr ⟨hF8, hF9⟩)] at h
          rw [if_neg hmark]
          cases h
          rfl

/-- Settles O9: the fault is the receiver's only answer, and its notice is the list's. -/
theorem linkFaultsListNotices : Obligations.LinkFaultsListNotices := by
  intro s lv b stopBit reason after hheld hfault
  obtain ⟨q, hq, hnotices⟩ := (s.withLevels lv).linkFault_notices reason after
  refine ⟨q, ?_, ?_⟩
  · rw [exec_rxByte hheld, State.takeChar_fault (s := s.withLevels lv) hfault, hq]
  · rcases RxPhase.faultOn_after hfault with rfl | rfl
    · exact hnotices
    · exact hnotices

/-- Settles O10: a running timer that expires is a link fault, and no other timer expires. -/
theorem interByteTimerExpires : Obligations.InterByteTimerExpires := by
  intro s hheld
  have hexec : exec .timeout s = .next s.rxExpired :=
    congrArg Host.Outcome.next (State.unlessHeld_none hheld)
  rw [hexec]
  refine ⟨fun h => ?_, fun h => ?_⟩
  · obtain ⟨n, hn⟩ := Option.ne_none_iff_exists'.mp h
    obtain ⟨q, hq, hnotices⟩ := s.linkFault_notices .timeout .idle
    refine ⟨q, ?_, hnotices⟩
    simp only [State.rxExpired, hn, hq]
  · simp only [State.rxExpired, h]

/-! ### A frame, character by character -/

theorem word16Bytes_length (w : Word16) : (word16Bytes w).length = 2 := rfl

theorem sealContent_length (bytes : List Byte) : (sealContent bytes).length = bytes.length + 2 := by
  rw [sealContent, List.length_append, word16Bytes_length]

@[simp] theorem contentBody_sealContent (bytes : List Byte) : contentBody (sealContent bytes) = bytes := by
  rw [contentBody, sealContent_length, Nat.add_sub_cancel]
  exact List.take_left

@[simp] theorem contentCheck_sealContent (bytes : List Byte) :
    contentCheck (sealContent bytes) = linkCheck bytes := by
  rw [contentCheck, sealContent_length]
  simp [sealContent, word16Bytes]

theorem commandOf_levels (lv : Levels) (f : Frame) :
    (commandOf lv f).levels? = some lv ∨ (commandOf lv f).levels? = none := by
  obtain ⟨kind, session, tag, body⟩ := f
  rcases kind_cases kind with hk | hk | hk | hk | hk | hk | hk | hk | hk | hk | hk | hk | hk
  case inl =>
    rw [commandOf_unknown hk]
    exact .inr rfl
  all_goals
    subst hk
    simp [commandOf, Instr.levels?]

/-- A command finds the levels it carries where they already stand. -/
theorem State.facing_commandOf {s : State} (f : Frame) (h : s.levels = lv) :
    s.facing (commandOf lv f) = s := by
  unfold State.facing
  rcases commandOf_levels lv f with hl | hl <;> rw [hl]
  exact congrArg (fun lv => { s with levels := lv }) h.symm

/-- Settles O11: the check of sealed content is right, so the mark hands the frame on. -/
theorem closingMarkHandsOn : Obligations.ClosingMarkHandsOn := by
  intro s lv kind session tag body hheld hphase
  have hjudge : (s.withLevels lv).judge (sealContent (kind :: session :: tag :: body)) =
      (((s.withLevels lv).receive (.gather [])).handOn ⟨kind, session, tag, body⟩).endHappening := by
    rw [State.judge, if_neg (by rw [sealContent_length]; simp), if_neg (by simp), contentBody_sealContent]
    rfl
  rw [exec_rxByte hheld, State.takeChar_gather (s := s.withLevels lv) hphase, if_pos rfl, if_neg, hjudge,
    exec_commandOf (s := { s with levels := lv, rx := ⟨.gather [], none⟩ }) lv _ hheld,
    State.facing_commandOf _ rfl]
  · rfl
  · rw [sealContent]
    nofun

theorem takeAll_cons {b : Byte} (hheld : s.resetHold = none) (rest : List Byte) :
    takeAll lv (b :: rest) s = takeAll lv rest ((s.withLevels lv).takeChar b true) := by
  rw [takeAll, exec_rxByte hheld]

/-- The receiver between the marks of a frame, with the content taken so far. -/
def State.gathering (s : State) (lv : Levels) (content : List Byte) : State :=
  (s.withLevels lv).receive (.gather content)

/-- A content byte, escaped or not, is appended as itself (R149, R153, R154). -/
theorem takeAll_escapeByte (hheld : s.resetHold = none) (b : Byte) (rest : List Byte)
    (hlen : content.length < 268) :
    takeAll lv (escapeByte b ++ rest) (s.gathering lv content) =
      takeAll lv rest (s.gathering lv (content ++ [b])) := by
  by_cases h : b = mark ∨ b = escapeMark
  · rw [escapeByte, if_pos h, List.cons_append, takeAll_cons (s := s.gathering lv content) hheld,
      State.takeChar_gather (s := (s.gathering lv content).withLevels lv) rfl, if_neg (by decide),
      if_pos (show escapeMark = 0xF8 from rfl), List.singleton_append,
      takeAll_cons (s := ((s.gathering lv content).withLevels lv).receive (.escape content)) hheld,
      State.takeChar_escape (content := content) rfl]
    rcases h with rfl | rfl
    · rw [if_neg (by decide), if_pos (by decide), State.gatherByte_fits _ hlen]
      rfl
    · rw [if_pos (by decide), State.gatherByte_fits _ hlen]
      rfl
  · rw [escapeByte, if_neg h, List.singleton_append, takeAll_cons (s := s.gathering lv content) hheld,
      State.takeChar_gather (s := (s.gathering lv content).withLevels lv) rfl,
      if_neg (show b ≠ 0xF9 from (not_or.mp h).1), if_neg (show b ≠ 0xF8 from (not_or.mp h).2), State.gatherByte_fits _ hlen]
    rfl

/-- The content of a frame within the limit is gathered byte by byte (R149, R153). -/
theorem takeAll_content (hheld : s.resetHold = none) (tail : List Byte) : ∀ {bytes content : List Byte},
    content.length + bytes.length ≤ 268 →
    takeAll lv (bytes.flatMap escapeByte ++ tail) (s.gathering lv content) =
      takeAll lv tail (s.gathering lv (content ++ bytes))
  | [], content, _ => by rw [List.flatMap_nil, List.nil_append, List.append_nil]
  | b :: bytes, content, h => by
    rw [List.length_cons] at h
    rw [List.flatMap_cons, List.append_assoc, takeAll_escapeByte hheld b _ (by omega),
      takeAll_content hheld tail (by rw [List.length_append, List.length_singleton]; omega),
      List.append_assoc, List.singleton_append]

theorem takeAll_singleton (b : Byte) : takeAll lv [b] s = exec (.rxByte lv (dataOf b) true) s := by
  obtain ⟨t, ht⟩ := Laws.exec_answers (.rxByte lv (dataOf b) true) s
  rw [takeAll, ht]
  rfl

/-- An opening mark, from IDLE or as fill between frames (R152, R153). -/
theorem takeAll_opening (hheld : s.resetHold = none)
    (h : s.rx.phase = .idle ∨ s.rx.phase = .gather []) (rest : List Byte) :
    takeAll lv (0xF9 :: rest) s = takeAll lv rest (s.gathering lv []) := by
  rw [takeAll_cons hheld]
  rcases h with h | h
  · rw [State.takeChar_idle (s := s.withLevels lv) h, if_pos ⟨rfl, rfl⟩]
    rfl
  · rw [State.takeChar_gather (s := s.withLevels lv) h, if_pos rfl, if_pos rfl]
    rfl

/-- Settles O12: the mark opens, the content is gathered, and the closing mark is that of O11. -/
theorem sentFrameIsItsCommand : Obligations.SentFrameIsItsCommand := by
  intro s lv kind session tag body hheld hphase hlen
  rw [← lineBytes_eq_framed, lineBytes, mark, takeAll_opening hheld hphase,
    takeAll_content hheld _ (by simp [sealContent_length]; omega), List.nil_append, takeAll_singleton,
    closingMarkHandsOn (s.gathering lv _) lv kind session tag body hheld rfl]
  rfl

end Sys2Proof.Machine

/-! ## The two checks and an error confined to one byte

Both checks are linear: the check of a difference is the difference of the checks. A byte that is not zero
leaves a register that is not zero, and no byte brings it back to zero. -/

namespace Sys2Proof.Machine

/-- What the polynomial adds to the shifted register. -/
def crcFeedback (carry : Bool) : Word16 := if carry then 0x1021 else 0

theorem crcBit_eq (c : Word16) (bit : Bool) : crcBit c bit = c <<< 1 ^^^ crcFeedback (c.msb != bit) := by
  unfold crcBit crcFeedback
  split
  · rfl
  · exact BitVec.xor_zero.symm

theorem crcFeedback_xor (x y : Bool) : crcFeedback x ^^^ crcFeedback y = crcFeedback (x != y) := by
  revert x y
  decide

theorem crcBit_xor (c d : Word16) (x y : Bool) : crcBit c x ^^^ crcBit d y = crcBit (c ^^^ d) (x != y) := by
  have hcarry : ((c ^^^ d).msb != (x != y)) = ((c.msb != x) != (d.msb != y)) := by
    rw [BitVec.msb_xor]
    cases c.msb <;> cases d.msb <;> cases x <;> cases y <;> rfl
  rw [crcBit_eq, crcBit_eq, crcBit_eq, hcarry, ← crcFeedback_xor (c.msb != x) (d.msb != y), BitVec.shiftLeft_xor_distrib]
  ac_rfl

theorem byteBits_xor (a b : Byte) :
    byteBits (a ^^^ b) = List.zipWith (· != ·) (byteBits a) (byteBits b) := by
  simp [byteBits, BitVec.getMsbD_xor]

theorem crcByte_xor (c d : Word16) (a b : Byte) :
    crcByte c a ^^^ crcByte d b = crcByte (c ^^^ d) (a ^^^ b) := by
  rw [crcByte, crcByte, crcByte, byteBits_xor]
  simp [byteBits, crcBit_xor]

/-- A register that is not zero stays so under a bit that is not set. -/
theorem crcBit_eq_zero {c : Word16} (h : crcBit c false = 0) : c = 0 := by
  have hcarry : crcBit c false = c <<< 1 ^^^ crcFeedback c.msb := by rw [crcBit_eq, Bool.bne_false]
  have hbit : ∀ i, (c <<< 1 ^^^ crcFeedback c.msb).getLsbD i = false := fun i => by
    rw [← hcarry, h]
    exact BitVec.getLsbD_zero
  have hmsb : c.msb = false := by
    have := hbit 0
    rw [BitVec.getLsbD_xor] at this
    cases hc : c.msb <;> simp [hc, crcFeedback] at this ⊢
  refine BitVec.eq_of_getLsbD_eq fun i hi => ?_
  rw [hmsb] at hbit
  by_cases hlast : i = 15
  · rw [BitVec.msb_eq_getLsbD_last] at hmsb
    rw [hlast]
    exact hmsb.trans BitVec.getLsbD_zero.symm
  · have := hbit (i + 1)
    rw [BitVec.getLsbD_xor] at this
    simp [crcFeedback] at this ⊢
    exact this (by omega)

theorem crcByte_eq_zero {c : Word16} (h : crcByte c 0 = 0) : c = 0 := by
  have hfold : ∀ (n : Nat) {c : Word16}, (List.replicate n false).foldl crcBit c = 0 → c = 0 := by
    intro n
    induction n with
    | zero => exact id
    | succ n ih => exact fun h => crcBit_eq_zero (ih h)
  exact hfold 8 h

theorem crcByte_zero_ne {b : Byte} : b ≠ 0 → crcByte 0 b ≠ 0 := by
  revert b
  decide

theorem crcByte_injective (b : Byte) : Function.Injective fun c => crcByte c b := by
  intro c d h
  have hzero : crcByte (c ^^^ d) (b ^^^ b) = 0 := by
    rw [← crcByte_xor]
    exact BitVec.xor_eq_zero_iff.mpr h
  rw [BitVec.xor_self] at hzero
  exact BitVec.xor_eq_zero_iff.mp (crcByte_eq_zero hzero)

theorem crcByte_ne (c : Word16) {a b : Byte} (h : a ≠ b) : crcByte c a ≠ crcByte c b := by
  intro heq
  have hzero : crcByte (c ^^^ c) (a ^^^ b) = 0 := by
    rw [← crcByte_xor]
    exact BitVec.xor_eq_zero_iff.mpr heq
  rw [BitVec.xor_self] at hzero
  exact crcByte_zero_ne (fun h0 => h (BitVec.xor_eq_zero_iff.mp h0)) hzero

theorem crc16_injective : ∀ bytes, Function.Injective fun init => crc16 init bytes
  | [] => fun _ _ h => h
  | b :: bytes => fun _ _ h => crcByte_injective b (crc16_injective bytes h)

theorem crc16_ne (init : Word16) (before after : List Byte) {a b : Byte} (h : a ≠ b) :
    crc16 init (before ++ a :: after) ≠ crc16 init (before ++ b :: after) := by
  simp only [crc16, List.foldl_append, List.foldl_cons]
  exact fun heq => crcByte_ne _ h (crc16_injective after heq)

/-- Settles O13: the registers differ after the changed byte, and every later byte keeps them apart. -/
theorem oneByteErrorChangesCheck : Obligations.OneByteErrorChangesCheck :=
  fun before after _ _ h => ⟨crc16_ne _ before after h, crc16_ne _ before after h⟩

end Sys2Proof.Machine

/-! ## Frames outward: content, beginning and end -/

namespace Sys2Proof.Machine

/-! ### The beginning of a frame -/

theorem State.send_tag {s : State} {e : Entry} {u : TagNo} (rest : List Entry) (h : e ≠ .reply u) :
    (s.send e rest).tag u = s.tag u := by
  rw [State.send_tag_eq]
  rcases e with t | _ | _ | _
  case reply =>
    have hne : u ≠ t := fun he => h (by rw [he])
    simp only [Entry.reply?, State.startSending]
    split
    · exact State.tag_setTag_ne _ hne _
    · rfl
  all_goals rfl

/-- A REPLY's tag goes from DONE to SENDING, its release-pending mark clear (R23). -/
theorem State.send_tag_reply {s : State} {u : TagNo} {r : Request} {final : Final} (rest : List Entry)
    (h : s.tag u = .done r final) : (s.send (.reply u) rest).tag u = .sending r final false := by
  have h' : (s.setList rest).tag u = .done r final := h
  rw [State.send_tag_eq]
  simp only [Entry.reply?, State.startSending, h', State.tag_setTag]

/-- Settles O15: a frame begins under its four conditions and otherwise not. -/
theorem frameBegins : Obligations.FrameBegins := by
  refine ⟨fun s => rfl, fun s e rest htx hhold hheld hlist => ?_, fun s h => State.beginFrame_not_ready h⟩
  rw [State.beginFrame_ready htx hhold hheld hlist]
  refine ⟨_, rfl, s.send_tx e rest, s.send_list e rest, s.send_stall e rest, ?_,
    fun u hu => State.send_tag rest hu, State.send_frame s e rest⟩
  rintro u r final rfl hdone
  exact State.send_tag_reply rest hdone

/-- The second byte of every content is the session number (R142, R165). -/
theorem State.compose_session (s : State) (e : Entry) : (s.compose e)[1]? = some s.session := by
  have hsecond : ∀ (a : Byte) (rest : List Byte), (sealContent (a :: s.session :: rest))[1]? = some s.session :=
    fun _ _ => rfl
  cases e <;> exact hsecond _ _

/-- The frame on TXD after a beginning is the one that was there or bears the session number (R142). -/
theorem State.beginFrame_bears (s : State) {f : TxFrame} (h : s.beginFrame.tx = some f) :
    s.beginFrame.tx = s.tx
      ∨ ∃ content, f.line = onLine (framed content) ∧ content[1]? = some s.beginFrame.session := by
  rcases s.beginFrame_cases with he | ⟨e, rest, -, -, -, -, he⟩
  · exact .inl (congrArg State.tx he)
  · have hsession : s.beginFrame.session = s.session := by rw [State.beginFrame_eq]
    rw [he, State.send_tx] at h
    obtain rfl := Option.some.inj h
    exact .inr ⟨s.compose e, rfl, hsession ▸ s.compose_session e⟩

/-- Settles O21: a new frame is one that the end of the happening began, composed with that session. -/
theorem frameBearsCurrentSession : Obligations.FrameBearsCurrentSession := by
  intro c s t f hexec htx hnew
  by_cases hc : c.isSignal = true
  case neg =>
    obtain ⟨q, hq, hend⟩ := exec_leads (by simpa using hc) hexec
    have haside : q.tx = s.tx := hq.aside.tx
    rcases hend with rfl | ⟨rfl, -⟩
    · exact (q.beginFrame_bears htx).resolve_left fun h => hnew (h.trans haside)
    · exact absurd haside hnew
  case pos =>
    cases c with
    | resetBegin cause =>
      cases hexec
      cases htx
    | hardwareReset rate1 rate0 =>
      cases hexec
      refine ((s.afterReset rate1 rate0).beginFrame_bears htx).resolve_left fun h => ?_
      rw [State.leaveReset_eq, h] at htx
      cases htx
    | holdAsserted =>
      cases hexec
      exact absurd rfl hnew
    | holdDeasserted =>
      cases hexec
      exact (State.beginFrame_bears _ htx).resolve_left hnew
    | frameEnd =>
      rcases exec_frameEnd hexec with rfl | ⟨g, -, -, rfl⟩
      · exact absurd rfl hnew
      refine (State.beginFrame_bears _ htx).resolve_left fun h => ?_
      rw [h, State.frameOver_frame] at htx
      cases htx
    | _ => cases hc

/-! ### The end of a frame -/

theorem State.replySent_held {s : State} {t : TagNo} {r : Request} {final : Final}
    (h : s.tag t = .sending r final false) (hsession : r.session = s.session) :
    s.replySent t = s.setTag t (.held r final) := by
  simp only [State.replySent, h, hsession, Bool.false_eq_true, ne_eq, not_true_eq_false, or_self, if_false]

theorem State.replySent_freed {s : State} {t : TagNo} {r : Request} {final : Final} {released : Bool}
    (h : s.tag t = .sending r final released) (hfree : released = true ∨ r.session ≠ s.session) :
    s.replySent t = s.freeTag t := by
  simp only [State.replySent, h, if_pos hfree]

theorem State.freeTag_tag_ne (s : State) {t u : TagNo} (h : u ≠ t) : (s.freeTag t).tag u = s.tag u := by
  obtain ⟨-, hother, -, -⟩ := State.freeTag_spec s t
  exact hother u h

theorem State.freeTag_tag (s : State) (t : TagNo) : (s.freeTag t).tag t = .free := by
  obtain ⟨htag, -, -, -⟩ := State.freeTag_spec s t
  exact htag

/-- A tag freed frees its buffer, whose contents stay (R129, R131). -/
theorem State.freeTag_buffer (s : State) (t : TagNo) (b : BufNo) :
    ((s.freeTag t).buffer b).contents = (s.buffer b).contents
    ∧ ((s.freeTag t).buffer b).binding =
        if (s.work? t).bind Work.buffer? = some b then .free else (s.buffer b).binding := by
  obtain ⟨-, -, hbuffer, -⟩ := State.freeTag_spec s t
  rw [hbuffer]
  split <;> exact ⟨rfl, rfl⟩

/-- The end of a REPLY's frame moves no other tag and no contents (R23, R129). -/
theorem State.replySent_keeps (s : State) (t : TagNo) :
    (∀ u, u ≠ t → (s.replySent t).tag u = s.tag u)
    ∧ ∀ b, ((s.replySent t).buffer b).contents = (s.buffer b).contents := by
  unfold State.replySent
  split
  · split
    · exact ⟨fun u hu => s.freeTag_tag_ne hu, fun b => (s.freeTag_buffer t b).1⟩
    · exact ⟨fun u hu => State.tag_setTag_ne s hu _, fun _ => rfl⟩
  · exact ⟨fun _ _ => rfl, fun _ => rfl⟩

/-- Settles O19: the REPLY's tag is settled by its mark and its session, and the next frame may begin. -/
theorem frameEndSettlesTag : Obligations.FrameEndSettlesTag := by
  intro s f hheld htx
  have hexec : exec .frameEnd s = .next (s.frameOver f).beginFrame :=
    congrArg Host.Outcome.next ((State.unlessHeld_none hheld).trans (State.frameEnded_some htx))
  refine ⟨s.frameOver f, hexec, s.frameOver_frame f, fun u hu => ?_, fun b => ?_, fun hnone => ?_,
    fun u r final released hu htag => ⟨fun hrel hsession => ?_, fun hfree => ?_⟩⟩
  · unfold State.frameOver
    split
    · next t ht =>
      obtain ⟨hother, -⟩ := State.replySent_keeps ({ s with tx := none } : State) t
      exact hother u fun he => hu (by rw [ht, he])
    · rfl
  · unfold State.frameOver
    split
    · next t _ =>
      obtain ⟨-, hcontents⟩ := State.replySent_keeps ({ s with tx := none } : State) t
      exact hcontents b
    · rfl
  · simp only [State.frameOver, hnone]
  all_goals
    have hover : s.frameOver f = ({ s with tx := none } : State).replySent u := by
      simp only [State.frameOver, hu]
    have htag' : ({ s with tx := none } : State).tag u = .sending r final released := htag
    rw [hover]
  · subst hrel
    rw [State.replySent_held htag' hsession]
    exact ⟨State.tag_setTag _ u _, rfl⟩
  · rw [State.replySent_freed htag' hfree]
    refine ⟨State.freeTag_tag _ u, fun b => ?_⟩
    obtain ⟨-, hbinding⟩ := State.freeTag_buffer ({ s with tx := none } : State) u b
    have hwork : (({ s with tx := none } : State).work? u).bind Work.buffer? = r.work.buffer? := by
      simp only [State.work?, htag', TagState.request?, Option.map_some, Option.bind_some]
    rw [hbinding, hwork]
    rfl

/-! ### The codes of Tables 12-6 to 12-9 -/

theorem Status.code_eq (st : Status) : st.code = statusByte st := by cases st <;> rfl

theorem Reason.code_eq (e : Reason) : e.code = reasonByte e := by cases e <;> rfl

theorem driveCode_eq (d : Drive) : driveCode d = if d = .d0 then 0x00 else 0x01 := by cases d <;> rfl

theorem trackCode_eq (t : Option Nat) : trackCode t = (t.map oneByte).getD 0xFF := by cases t <;> rfl

/-- The bits of an event set are added as they are joined: each stands in its own place (Table 12-9). -/
theorem EventSet.code_eq (set : EventSet) : set.code = eventByte set := by
  obtain ⟨a, b, c, d, e⟩ := set
  revert a b c d e
  decide

theorem word16Bytes_ofNat (n : Nat) : word16Bytes (BitVec.ofNat 16 n) = twoBytes n := by
  have hhi : hiByte (BitVec.ofNat 16 n) = BitVec.ofNat 8 (n / 256) := by
    apply BitVec.eq_of_toNat_eq
    simp [hiByte, Nat.shiftRight_eq_div_pow]
    omega
  have hlo : loByte (BitVec.ofNat 16 n) = BitVec.ofNat 8 n := by
    apply BitVec.eq_of_toNat_eq
    simp [loByte]
  rw [word16Bytes, hhi, hlo, twoBytes]

theorem word16Bytes_period (p : Option Word16) :
    word16Bytes (p.getD 0) = twoBytes ((p.map (·.toNat)).getD 0) := by
  rw [← word16Bytes_ofNat]
  cases p with
  | none => rfl
  | some w => exact congrArg word16Bytes (BitVec.eq_of_toNat_eq (by simp))

theorem Stats.bytes_eq (c : Stats) : c.bytes = twoBytes c.sectorsRead ++ twoBytes c.sectorsWritten
    ++ twoBytes c.failedAttempts ++ twoBytes c.misses ++ twoBytes c.recalibrations := by
  simp only [Stats.bytes, counterBytes, word16Bytes_ofNat]

theorem Snapshot.bytes_eq (q : Snapshot) : q.bytes = snapshotBytes q := by
  obtain ⟨d, c, m, track, moving, pos, period, wp, len, act, res, stats⟩ := q
  simp only [Snapshot.bytes, snapshotBytes, Stats.bytes_eq, word16Bytes_period, driveCode_eq, trackCode_eq]
  simp only [List.append_assoc, List.cons_append, List.nil_append, List.cons.injEq, true_and]
  refine ⟨by cases c <;> rfl, by cases m <;> rfl, rfl, by cases pos <;> rfl, ?_⟩
  rcases act with _ | t <;> rcases res with _ | _ | _ <;> rfl

theorem State.replyBytes_eq {s : State} {t : TagNo} {r : Request} {final : Final}
    (h : (s.tag t).final? = some (r, final)) :
    s.replyBytes t = replyBody r final fun b => (s.buffer b).contents := by
  simp only [State.replyBytes, h]

/-- Settles O17: Table 12-5 row by row. -/
theorem readReplyCarriesBuffer : Obligations.ReadReplyCarriesBuffer := by
  intro s t r final h
  simp only [State.compose, State.replyBytes_eq h, replyBody, Status.code_eq, driveCode_eq, trackCode_eq,
    Snapshot.bytes_eq]
  cases r.work <;> rfl

/-- The content of a REPLY has the length of its kind's row (Table 12-4). -/
theorem State.contentLength_reply {s : State} {t : TagNo} {r : Request} {final : Final}
    (h : (s.tag t).final? = some (r, final)) :
    s.contentLength (.reply t) = some ((replyBody r final fun b => (s.buffer b).contents).length + 5) := by
  simp only [State.contentLength, h, replyBody, Option.some.injEq]
  cases r.work
  case read a b l =>
    by_cases hdata : final.status = .ok ∨ final.status = .dataCheck
    · simp only [if_pos hdata, List.length_append, (s.buffer b).contents.2]
      rfl
    · simp only [if_neg hdata]
      rfl
  all_goals rfl

theorem replyBody_length_le (r : Request) (final : Final) (data : BufNo → Block) :
    (replyBody r final data).length + 5 ≤ 268 := by
  unfold replyBody
  cases r.work
  case read a b l =>
    by_cases hdata : final.status = .ok ∨ final.status = .dataCheck
    · simp [hdata, (data b).2]
    · simp [hdata]
  all_goals exact Nat.le_of_ble_eq_true rfl

theorem State.contentLength_spec {s : State} {e : Entry} {n : Nat} (h : s.contentLength e = some n) :
    (s.compose e).length = n ∧ n ≤ 268 := by
  cases e with
  | reply t =>
    rcases hfinal : (s.tag t).final? with _ | ⟨r, final⟩
    · simp [State.contentLength, hfinal] at h
    · rw [State.contentLength_reply hfinal] at h
      obtain rfl := Option.some.inj h
      refine ⟨?_, replyBody_length_le r final _⟩
      rw [State.compose, State.replyBytes_eq hfinal, sealContent_length]
      rfl
  | event | notice =>
    cases h
    exact ⟨rfl, by decide⟩
  | started a =>
    cases a
    all_goals
      cases h
      exact ⟨rfl, by decide⟩

/-- Settles O16: each content is sealed from the bytes of its row. -/
theorem frameContents : Obligations.FrameContents := by
  refine fun s => ⟨fun e n h => State.contentLength_spec h, fun t => ⟨_, rfl⟩, fun d set => ?_,
    fun reason kind tag more => ?_, s.compose_restarted, rfl⟩
  · rw [State.compose, driveCode_eq, EventSet.code_eq]
  · rw [State.compose, Reason.code_eq]
    rfl

end Sys2Proof.Machine

/-! ## Sessions: an OPEN with no session open, and one that ends a session -/

namespace Sys2Proof.Machine

/-! ### Run-on on a drive with an empty queue -/

/-- The spindle of a drive that has just been left free with an empty queue (R77, R80). -/
def DriveUnit.ranOn (u : DriveUnit) (free : Bool) : Spindle :=
  if (u.spindle.condition == .turning) = true ∧ free = true ∧ u.spindle.runOnTimer = none then
    if (u.record.getD .absent).runOn = 0 then .still .stopped .unknown
    else { u.spindle with runOnTimer := some (1000 * (u.record.getD .absent).runOn) }
  else u.spindle

theorem State.setSpindle_self (s : State) (d : Drive) : s.setSpindle d (s.drive d).spindle = s := by
  show { s with units := s.units.set d (s.units.get d) } = s
  rw [Pair.set_get]

theorem State.runOnIfDue_of_empty {s : State} {d : Drive} (h : (s.drive d).queue = []) :
    s.runOnIfDue d = s.setSpindle d ((s.drive d).ranOn (s.isFree d)) := by
  have hcond : (s.isFree d && s.isTurning d && (s.drive d).queue.isEmpty
      && (s.drive d).spindle.runOnTimer.isNone) = true ↔
      s.isTurning d = true ∧ s.isFree d = true
        ∧ (s.drive d).spindle.runOnTimer = none := by
    simp only [Bool.and_eq_true, h, List.isEmpty_nil, Option.isNone_iff_eq_none, and_true]
    tauto
  have hran : (s.drive d).ranOn (s.isFree d) =
      if s.isTurning d = true ∧ s.isFree d = true ∧ (s.drive d).spindle.runOnTimer = none then
        if (s.geometry d).runOn = 0 then .still .stopped .unknown
        else { (s.drive d).spindle with runOnTimer := some (1000 * (s.geometry d).runOn) }
      else (s.drive d).spindle := rfl
  rw [State.runOnIfDue, hran]
  by_cases hdue : s.isTurning d = true ∧ s.isFree d = true ∧ (s.drive d).spindle.runOnTimer = none
  · rw [if_pos (hcond.mpr hdue), if_pos hdue]
    by_cases hrun : (s.geometry d).runOn = 0
    · rw [if_pos hrun, if_pos hrun]
      rfl
    · rw [if_neg hrun, if_neg hrun]
  · rw [if_neg fun hc => hdue (hcond.mp hc), if_neg hdue, State.setSpindle_self]

/-- Whether a drive is free rests on the tags, its motion and the pass (R30). -/
theorem State.isFree_congr {s t : State} {d : Drive} (htags : t.tags = s.tags) (hpass : t.pass = s.pass)
    (hmotion : (t.drive d).head.motion = (s.drive d).head.motion) : t.isFree d = s.isFree d := by
  simp only [State.isFree, State.activeTag_congr htags, State.detachedMotion, State.detachedPass, hpass,
    hmotion]

/-- The last two stages of Table 11-1, on two drives with empty queues (R161). -/
def State.runOnBoth (s : State) : State := (s.runOnIfDue .d0).runOnIfDue .d1

theorem State.runOnBoth_frame (s : State) : s.runOnBoth = { s with units := s.runOnBoth.units } := by
  have h : ∀ (u : State) d, u.runOnIfDue d = { u with units := (u.runOnIfDue d).units } := fun u d => by
    rcases u.runOnIfDue_cases d with he | ⟨-, -, -, -, ⟨-, he⟩ | ⟨-, he⟩⟩ <;> rw [he] <;> rfl
  rw [State.runOnBoth, h (s.runOnIfDue .d0) .d1, h s .d0]

theorem State.runOnBoth_drive {s : State} (h : ∀ d, (s.drive d).queue = []) (d : Drive) :
    s.runOnBoth.drive d = { s.drive d with spindle := (s.drive d).ranOn (s.isFree d) } := by
  have hfirst := State.runOnIfDue_of_empty (h .d0)
  have hother : (s.runOnIfDue .d0).drive .d1 = s.drive .d1 := by
    rw [hfirst]
    exact State.drive_setSpindle_other s .d0 _
  have hsecond := State.runOnIfDue_of_empty (s := s.runOnIfDue .d0) (d := .d1) (by rw [hother, h])
  have hfree : (s.runOnIfDue .d0).isFree .d1 = s.isFree .d1 :=
    State.isFree_congr (by rw [hfirst]; rfl) (by rw [hfirst]; rfl) (by rw [hother])
  rw [State.runOnBoth, hsecond, hother, hfree]
  cases d with
  | d0 =>
    rw [hfirst]
    exact (State.drive_setSpindle_other _ .d1 _).trans (State.drive_setSpindle s .d0 _)
  | d1 => rw [State.drive_setSpindle, hother]

theorem State.runOnBoth_isFree {s : State} (h : ∀ d, (s.drive d).queue = []) (d : Drive) :
    s.runOnBoth.isFree d = s.isFree d :=
  State.isFree_congr (by rw [State.runOnBoth_frame]) (by rw [State.runOnBoth_frame])
    (by rw [State.runOnBoth_drive h])

/-! ### OPEN -/

theorem exec_open {s : State} (hheld : s.resetHold = none) (session tag : Byte) :
    exec (.openSession session tag []) s = .next s.openAccepted.endHappening :=
  congrArg Host.Outcome.next (State.unlessHeld_none hheld)

theorem noticeCount_announced (l : List Entry) (a : Announcement) :
    noticeCount (l.filter (fun e => !e.isStarted) ++ [Entry.started a]) = noticeCount l := by
  rw [noticeCount_append, noticeCount, noticeCount, List.countP_filter]
  refine (Nat.add_zero _).trans (List.countP_congr fun e _ => ?_)
  cases e <;> simp [Entry.isNotice, Entry.isStarted]

/-- Settles O24: the number becomes 1, and the announcement takes the place of one still waiting. -/
theorem openWhileClosed : Obligations.OpenWhileClosed := by
  intro s session tag hheld hclosed
  have haccepted : s.openAccepted = ({ s with session := nextSession s.session } : State).announce .opened :=
    if_pos hclosed
  refine ⟨s.openAccepted, exec_open hheld session tag, ?_, ?_, ?_, ?_⟩ <;> rw [haccepted]
  · show nextSession s.session = 1
    rw [hclosed]
    rfl
  · rfl
  · show decide (4 ≤ noticeCount (_ ++ _)) = _
    rw [noticeCount_announced]
  · rfl

/-- A session that is ended, with OPENED listed (R161, R162). -/
def State.reopened (s : State) : State :=
  ({ s with session := nextSession s.session } : State).endSession.announce .opened

theorem State.reopened_drive (s : State) (d : Drive) : s.reopened.drive d = { s.drive d with
    queue := [], head := { (s.drive d).head with motion := motionLeft (s.drive d).head.motion } } :=
  State.endSession_drive ({ s with session := nextSession s.session } : State) d

theorem State.reopened_tag (s : State) (t : TagNo) :
    s.reopened.tag t = if (s.tag t).isSending then s.tag t else .free :=
  State.endSession_tag ({ s with session := nextSession s.session } : State) t

theorem State.reopened_list (s : State) :
    s.reopened.list = s.list.filter Entry.isEvent ++ [.started .opened] := by
  show (State.endSession _).list.filter _ ++ _ = _
  rw [State.endSession_list, List.filter_filter]
  refine congrArg (· ++ _) (List.filter_congr fun e _ => ?_)
  cases e <;> rfl

theorem noticeCount_events (l : List Entry) : noticeCount (l.filter Entry.isEvent) = 0 := by
  rw [noticeCount, List.countP_eq_zero]
  intro e he
  cases e <;> simp [Entry.isEvent, Entry.isNotice] at he ⊢

theorem State.reopened_stall (s : State) : s.reopened.stall = false := by
  show decide (4 ≤ noticeCount s.reopened.list) = false
  rw [State.reopened_list, noticeCount_append, noticeCount_events]
  rfl

theorem State.reopened_frame (s : State) : s.reopened = { s with
    session := nextSession s.session, tags := s.reopened.tags, units := s.reopened.units
    pass := s.pass.map Pass.detach, buffers := s.reopened.buffers
    bus := { s.bus with reservation := none }, list := s.reopened.list, stall := s.reopened.stall } := by
  obtain ⟨l, h⟩ := State.endSession_frame ({ s with session := nextSession s.session } : State)
  have hannounce : s.reopened = { State.endSession ({ s with session := nextSession s.session } : State) with
      list := s.reopened.list, stall := s.reopened.stall } := rfl
  rw [hannounce, h]

/-- What a session end does to the bindings of the buffers (R132). -/
theorem State.reopened_buffer (s : State) (b : BufNo) :
    (s.reopened.buffer b).contents = (s.buffer b).contents
    ∧ (∀ t, (s.buffer b).binding = .tag t → (s.reopened.buffer b).binding =
        if (s.pass.any fun p => p.buffer == some b) = true then .detachedPass
        else if (s.tag t).isSending then .tag t else .free)
    ∧ ((∀ t, (s.buffer b).binding ≠ .tag t) → (s.reopened.buffer b).binding = (s.buffer b).binding) := by
  have hbuffer : s.reopened.buffer b
      = (State.endSession ({ s with session := nextSession s.session } : State)).buffer b := rfl
  rw [hbuffer]
  by_cases hbound : ∃ t, (s.buffer b).binding = .tag t
  · obtain ⟨t, ht⟩ := hbound
    rw [State.endSession_buffer_tag (s := { s with session := nextSession s.session }) (b := b) ht]
    refine ⟨rfl, fun u hu => ?_, fun h => absurd ht (h t)⟩
    rw [ht] at hu
    cases hu
    rfl
  · have hother : ∀ t, (s.buffer b).binding ≠ .tag t := fun t ht => hbound ⟨t, ht⟩
    rw [State.endSession_buffer_other (s := { s with session := nextSession s.session }) (b := b) hother]
    exact ⟨rfl, fun t ht => absurd ht (hother t), fun _ => rfl⟩

theorem nextSession_eq (n : Byte) : nextSession n = if n = 255 then 1 else n + 1 := rfl

theorem State.openAccepted_open {s : State} (h : s.session ≠ 0) : s.openAccepted = s.reopened.runOnBoth :=
  if_neg h

/-- Settles O25: the session ends stage by stage, and run-on is judged on what it leaves. -/
theorem openEndsSession : Obligations.OpenEndsSession := by
  intro s session tag hheld hopen
  have hempty : ∀ d, (s.reopened.drive d).queue = [] := fun d => by rw [State.reopened_drive]
  have hframe := s.reopened.runOnBoth_frame
  have hdrive := State.runOnBoth_drive hempty
  have hisFree := State.runOnBoth_isFree hempty
  refine ⟨s.reopened.runOnBoth, ?_, ?_, fun t => ?_, fun d => ?_, ?_, fun b => ?_, ?_, ?_, ?_, ?_⟩
  · rw [exec_open hheld, State.openAccepted_open hopen]
  · rw [hframe]
    exact nextSession_eq s.session
  · rw [State.tag_congr (s := s.reopened) (by rw [hframe]), State.reopened_tag]
  · rw [hisFree, hdrive, State.reopened_drive]
    exact ⟨rfl, rfl, rfl, rfl, rfl, rfl⟩
  · rw [hframe, State.reopened_frame]
    cases s.pass <;> rfl
  · obtain ⟨hcontents, hbound, hother⟩ := s.reopened_buffer b
    rw [State.buffer_congr (s := s.reopened) (by rw [hframe])]
    refine ⟨hcontents, ?_⟩
    rcases hb : (s.buffer b).binding with _ | t | _
    case tag => exact hbound t hb
    all_goals
      refine (hother fun t ht => ?_).trans hb
      rw [hb] at ht
      cases ht
  · rw [hframe, State.reopened_frame]
  · rw [hframe]
    exact s.reopened_list
  · rw [hframe]
    exact s.reopened_stall
  · rw [hframe, State.reopened_frame]

end Sys2Proof.Machine

/-! ## Requests: acceptance -/

namespace Sys2Proof.Machine

variable {s : State} {d : Drive} {t : TagNo} {w : Work} {b : BufNo}

/-! ### A request joins its drive's queue -/

/-- What an acceptance has done before its request joins the queue: other tags stay, and nothing has moved
but the tag and the buffers (R13, R128). -/
structure State.Prepares (s q : State) (t : TagNo) : Prop where
  others : ∀ u, u ≠ t → q.tag u = s.tag u
  rest : q = { s with tags := q.tags, buffers := q.buffers }

theorem State.releaseHeld_prepares (s : State) (t : TagNo) : s.Prepares (s.releaseHeld t) t := by
  obtain ⟨hothers, -, -, hrest⟩ := s.releaseHeld_spec t
  exact ⟨hothers, hrest⟩

theorem State.Prepares.bind {q : State} (h : s.Prepares q t) (b : BufNo) :
    s.Prepares (q.bindBuffer b (.tag t)) t := by
  obtain ⟨hothers, hrest⟩ := h
  exact ⟨hothers, by rw [hrest]; rfl⟩

theorem State.Prepares.fill {q : State} (h : s.Prepares q t) (b : BufNo) (data : Block) :
    s.Prepares (q.fillBuffer b data) t := by
  obtain ⟨hothers, hrest⟩ := h
  exact ⟨hothers, by rw [hrest]; rfl⟩

theorem State.Prepares.joins {q : State} (h : s.Prepares q t) (d : Drive) (w : Work) :
    s.Joins (q.joinQueue d t w) d t ⟨w, d, s.session, s.nextStamp, 0⟩ := by
  obtain ⟨hothers, hrest⟩ := h
  have hsession : q.session = s.session := by rw [hrest]
  have hstamp : q.nextStamp = s.nextStamp := by rw [hrest]
  have hdrive : ∀ e, q.drive e = s.drive e := State.drive_congr (by rw [hrest])
  constructor
  case tag =>
    rw [← hsession, ← hstamp]
    exact State.tag_setTag _ t _
  case others => exact fun u hu => (State.tag_setTag_ne _ hu _).trans (hothers u hu)
  case drive =>
    rw [← hdrive]
    exact State.drive_setQueue _ d _
  case otherDrive => exact (State.drive_setQueue_other _ d _).trans (hdrive d.other)
  case stamp => exact ⟨rfl, congrArg (· + 1) hstamp⟩
  case fields => exact ⟨rfl, rfl, rfl⟩
  case rest =>
    rw [hrest]
    rfl

/-- The implicit release frees the buffer of a HELD tag and no other, and moves no contents (R13). -/
theorem State.releaseHeld_released (s : State) (t : TagNo) : s.BuffersReleased (s.releaseHeld t) t none := by
  obtain ⟨-, -, hbuffers, -⟩ := s.releaseHeld_spec t
  exact fun c _ => hbuffers c

theorem State.BuffersReleased.bind {q : State} (h : s.BuffersReleased q t none) (b : BufNo) :
    s.BuffersReleased (q.bindBuffer b (.tag t)) t (some b) := by
  intro c hc
  rw [State.buffer_bindBuffer_eq, if_neg (fun he => hc (by rw [he]))]
  exact h c nofun

theorem State.BuffersReleased.fill {q : State} (h : s.BuffersReleased q t (some b)) (data : Block) :
    s.BuffersReleased (q.fillBuffer b data) t (some b) := by
  intro c hc
  rw [State.buffer_fillBuffer_eq, if_neg (fun he => hc (by rw [he]))]
  exact h c hc

theorem State.buffer_joinQueue (s : State) (d : Drive) (t : TagNo) (w : Work) (b : BufNo) :
    (s.joinQueue d t w).buffer b = s.buffer b := rfl

/-- The buffer bound keeps its contents until a WRITE fills it (R128, R129). -/
theorem State.bound_buffer (s : State) (t : TagNo) (b : BufNo) :
    ((s.releaseHeld t).bindBuffer b (.tag t)).buffer b = ⟨.tag t, (s.buffer b).contents⟩ := by
  obtain ⟨hcontents, -⟩ := s.releaseHeld_released t b nofun
  rw [State.buffer_bindBuffer_eq, if_pos rfl, hcontents]

/-- The lowest-numbered buffer that a READ or WRITE may bind (R11, R128). -/
theorem State.boundFor_lowest (h : ((List.finRange 8).all fun b => !s.freeFor t b) = false) :
    s.lowestFor t (s.boundFor t) := by
  obtain ⟨hfree, hlower⟩ := State.lowestFree_some (State.lowestFree_boundFor h)
  refine ⟨State.releaseHeld_free_iff.mp hfree, fun c hc => ?_⟩
  have := hlower c hc
  rwa [ne_eq, State.releaseHeld_free_iff, Bool.not_eq_true] at this

theorem State.accept_eq (h : w.buffer? = none) :
    s.accept ⟨t, d, w⟩ = ((s.releaseHeld t).joinQueue d t w).acceptedAt d t := by
  simp only [State.accept, State.bindWork, h, State.enqueue_eq]

theorem State.accept_bound (h : w.buffer? = some b) : s.accept ⟨t, d, w⟩ =
    (((s.releaseHeld t).bindBuffer b (.tag t)).joinQueue d t w).acceptedAt d t := by
  simp only [State.accept, State.bindWork, h, State.enqueue_eq]

theorem State.acceptWrite_eq (data : Block) (h : w.buffer? = some b) : s.acceptWrite ⟨t, d, w⟩ data =
    ((((s.releaseHeld t).bindBuffer b (.tag t)).fillBuffer b data).joinQueue d t w).acceptedAt d t := by
  simp only [State.acceptWrite, State.bindWork, State.fillWork, h, State.enqueue_eq]

theorem State.lowestFor_withLevels {lv : Levels} : (s.withLevels lv).lowestFor t b ↔ s.lowestFor t b := Iff.rfl

/-- A READ that passes its checks, up to its queue (R14, R28, R128). -/
theorem State.takeRead_joins {f : Frame} (hkind : f.kind = 0x10) (hpass : s.firstFailure f = none) :
    ∃ (b : BufNo) (q : State), s.takeRead f = q.acceptedAt f.driveNo f.tagNo
      ∧ s.Joins q f.driveNo f.tagNo ⟨.read f.sectorAddr b .start, f.driveNo, s.session, s.nextStamp, 0⟩
      ∧ s.lowestFor f.tagNo b ∧ q.buffer b = ⟨.tag f.tagNo, (s.buffer b).contents⟩
      ∧ s.BuffersReleased q f.tagNo (some b) := by
  have hbuffer := State.buffer_of_passed (by rw [hkind]; rfl) hpass (.inl hkind)
  refine ⟨_, _, (State.judged_accepts (checkRead_eq hkind) hpass).trans (State.accept_bound rfl),
    ((s.releaseHeld_prepares f.tagNo).bind _).joins f.driveNo _, State.boundFor_lowest hbuffer, ?_, ?_⟩
  · rw [State.buffer_joinQueue, State.bound_buffer]
  · exact (s.releaseHeld_released f.tagNo).bind _

/-- Settles O27: the lowest free buffer is bound, and the request joins the queue. -/
theorem readJoinsQueue : Obligations.ReadJoinsQueue := by
  intro s lv session tag body hheld f t d hpass
  obtain ⟨b, q, htake, hjoins, hlowest, hbuffer, hreleased⟩ :=
    State.takeRead_joins (s := s.withLevels lv) (f := f) rfl hpass
  exact ⟨b, q, congrArg Host.Outcome.next ((State.frameHappening_of_not_held _ _ hheld).trans
    (congrArg State.endHappening htake)), hjoins, State.lowestFor_withLevels.mp hlowest, hbuffer, hreleased⟩

theorem writeData_val {f : Frame} (h : f.body.length = 261) : (writeData f).val = f.body.drop 5 := by
  refine List.ext_getElem (by simp [writeData, h]) fun i hi _ => ?_
  have hi' : 5 + i < f.body.length := by
    simp only [writeData, List.length_map, List.length_range] at hi
    omega
  simp [writeData, Frame.byte, List.getElem?_eq_getElem hi']

/-- A WRITE that passes its checks, up to its queue (R14, R28, R128, R129). -/
theorem State.takeWrite_joins {f : Frame} (hkind : f.kind = 0x11) (hpass : s.firstFailure f = none) :
    ∃ (b : BufNo) (q : State), s.takeWrite f = q.acceptedAt f.driveNo f.tagNo
      ∧ s.Joins q f.driveNo f.tagNo
        ⟨.write f.sectorAddr (f.byte 4 == 0x01) b .start false, f.driveNo, s.session, s.nextStamp, 0⟩
      ∧ s.lowestFor f.tagNo b ∧ q.buffer b = ⟨.tag f.tagNo, writeData f⟩
      ∧ s.BuffersReleased q f.tagNo (some b) := by
  have hbuffer := State.buffer_of_passed (by rw [hkind]; rfl) hpass (.inr hkind)
  refine ⟨_, _, (State.judged_accepts (checkWrite_eq hkind) hpass).trans (State.acceptWrite_eq _ rfl),
    (((s.releaseHeld_prepares f.tagNo).bind _).fill _ _).joins f.driveNo _, State.boundFor_lowest hbuffer,
    ?_, ?_⟩
  · rw [State.buffer_joinQueue, State.buffer_fillBuffer_eq, if_pos rfl, State.bound_buffer]
  · exact ((s.releaseHeld_released f.tagNo).bind _).fill _

/-- Settles O28: the lowest free buffer is bound and filled, and the request joins the queue. -/
theorem writeJoinsQueue : Obligations.WriteJoinsQueue := by
  intro s lv session tag body hheld f t d hpass
  have hlength : f.body.length = 261 := (Option.some.inj (State.length_of_passed (f := f) rfl hpass)).symm
  obtain ⟨b, q, htake, hjoins, hlowest, hbuffer, hreleased⟩ :=
    State.takeWrite_joins (s := s.withLevels lv) (f := f) rfl hpass
  refine ⟨b, q, congrArg Host.Outcome.next ((State.frameHappening_of_not_held _ _ hheld).trans
    (congrArg State.endHappening htake)), hjoins, State.lowestFor_withLevels.mp hlowest, ?_, ?_, hreleased⟩
  · rw [hbuffer]
  · rw [hbuffer]
    exact writeData_val hlength

/-- Settles O29: the request joins the queue, and the implicit release is all that the buffers see. -/
theorem otherWorkJoinsQueue : Obligations.OtherWorkJoinsQueue := by
  intro s lv session tag body kind c w hheld f hc hpass
  have hpass' : (s.withLevels lv).firstFailure f = none := hpass
  have hexec : w.buffer? = none
      ∧ exec c s = .next ((s.withLevels lv).accept ⟨f.tagNo, f.driveNo, w⟩).endHappening := by
    rcases hc with ⟨rfl, rfl, rfl⟩ | ⟨rfl, rfl, rfl⟩ | ⟨rfl, rfl, rfl⟩ | ⟨rfl, rfl, rfl⟩
    all_goals
      refine ⟨rfl, congrArg Host.Outcome.next ((State.frameHappening_of_not_held _ _ hheld).trans ?_)⟩
    · exact congrArg State.endHappening (State.judged_accepts (checkVerify_eq rfl) hpass')
    · exact congrArg State.endHappening (State.judged_accepts (checkFormat_eq rfl) hpass')
    · exact congrArg State.endHappening (State.judged_accepts (checkSeek_eq rfl) hpass')
    · exact congrArg State.endHappening (State.judged_accepts (checkRecal_eq rfl) hpass')
  obtain ⟨hw, hexec⟩ := hexec
  rw [State.accept_eq hw] at hexec
  exact ⟨_, hexec, ((s.withLevels lv).releaseHeld_prepares f.tagNo).joins f.driveNo w,
    (s.withLevels lv).releaseHeld_released f.tagNo⟩

/-! ### A request that completes at its acceptance -/

/-- What DEFINE and QUERY leave behind once their effects on the drive are done: the request is DONE with
its REPLY listed, and the stamp advances (R15). -/
theorem State.acceptDone_spec {x : State} (d : Drive) (w : Work)
    (hx : x = { s with tags := x.tags, buffers := x.buffers, units := x.units })
    (hothers : ∀ u, u ≠ t → x.tag u = s.tag u) (hreleased : s.BuffersReleased x t none)
    (hreached : ∀ h, reachedAt w .ok h = none) :
    (x.acceptDone t d w).tag t = .done ⟨w, d, s.session, s.nextStamp, 0⟩ ⟨.ok, none⟩
    ∧ (∀ u, u ≠ t → (x.acceptDone t d w).tag u = s.tag u)
    ∧ (∀ e, (x.acceptDone t d w).drive e = x.drive e)
    ∧ (x.acceptDone t d w).list = s.list ++ [.reply t]
    ∧ (x.acceptDone t d w).stall = decide (4 ≤ noticeCount s.list)
    ∧ s.BuffersReleased (x.acceptDone t d w) t none
    ∧ x.acceptDone t d w = { s with
        units := (x.acceptDone t d w).units, tags := (x.acceptDone t d w).tags
        buffers := (x.acceptDone t d w).buffers, list := (x.acceptDone t d w).list
        stall := (x.acceptDone t d w).stall, nextStamp := s.nextStamp + 1 } := by
  have hlist : x.list = s.list := by rw [hx]
  have hsession : x.session = s.session := by rw [hx]
  have hstamp : x.nextStamp = s.nextStamp := by rw [hx]
  obtain ⟨htag, hquiet, hentry, hstall, -⟩ := State.finish_spec ({ x with nextStamp := x.nextStamp + 1 } : State) t
    ⟨w, d, x.session, x.nextStamp, 0⟩ .ok
  refine ⟨?_, fun u hu => (hquiet u hu).trans (hothers u hu), fun _ => rfl, ?_, ?_, hreleased, ?_⟩
  · rw [hreached] at htag
    rw [← hsession, ← hstamp]
    exact htag
  · rw [← hlist]
    exact hentry
  · rw [← hlist]
    exact hstall
  · rw [hx]
    rfl

theorem State.isIdle_queue (h : s.isIdle d = true) : (s.drive d).queue = [] := by
  simp only [State.isIdle, Bool.and_eq_true, List.isEmpty_iff] at h
  exact h.1.1

/-- Settles O31: the drive is written outright, and the request completes at once. -/
theorem defineReplacesRecord : Obligations.DefineReplacesRecord := by
  intro s session tag body hheld f t d v hpass
  have hempty : (s.drive d).queue = [] := State.isIdle_queue (State.idle_of_passed (f := f) rfl hpass rfl)
  obtain ⟨hothers, hrest⟩ := s.releaseHeld_prepares t
  have hunits : ∀ e, (s.releaseHeld t).drive e = s.drive e := State.drive_congr (by rw [hrest])
  have hx : (s.releaseHeld t).redefine d (recordOf f) = { s with
      tags := ((s.releaseHeld t).redefine d (recordOf f)).tags
      buffers := ((s.releaseHeld t).redefine d (recordOf f)).buffers
      units := ((s.releaseHeld t).redefine d (recordOf f)).units } := by
    rw [hrest]
    rfl
  obtain ⟨htag, hquiet, hdrive, hlist, hstall, hreleased, hframe⟩ :=
    State.acceptDone_spec (t := t) d .define hx hothers (s.releaseHeld_released t) fun _ => rfl
  have hexec : exec (.define session tag body) s =
      .next (((s.releaseHeld t).redefine d (recordOf f)).acceptDone t d .define).endHappening :=
    congrArg Host.Outcome.next ((State.frameHappening_of_not_held _ _ hheld).trans
      (congrArg State.endHappening (State.judged_accepts (checkDefine_eq rfl) hpass)))
  refine ⟨_, hexec, ?_, ?_, htag, hquiet, hlist, hstall, hreleased, hframe⟩
  · rw [hdrive, State.redefine, State.drive_setDrive, hunits, hempty]
    rfl
  · rw [hdrive, State.redefine, State.drive_setDrive_other, hunits]

theorem State.clearStats_drive (s : State) (d : Drive) (clear : Bool) :
    (s.clearStats d clear).drive d = { s.drive d with
      stats := if clear = true then .zero else (s.drive d).stats } := by
  cases clear
  · rfl
  · exact State.drive_setStats s d .zero

theorem State.clearStats_drive_other (s : State) (d : Drive) (clear : Bool) :
    (s.clearStats d clear).drive d.other = s.drive d.other := by
  cases clear
  · rfl
  · exact State.drive_setStats_other s d .zero

theorem State.clearStats_frame (s : State) (d : Drive) (clear : Bool) :
    s.clearStats d clear = { s with units := (s.clearStats d clear).units } := by
  cases clear <;> rfl

/-- A QUERY that passes its checks, with the levels it carries in place (R56 to R59). -/
theorem State.takeQuery_eq {f : Frame} (hkind : f.kind = 0x03) (hpass : s.firstFailure f = none) :
    s.takeQuery f = ((s.releaseHeld f.tagNo).clearStats f.driveNo (f.byte 1 == 0x01)).acceptDone f.tagNo
      f.driveNo (.query (f.byte 1 == 0x01) (s.snapshot f.driveNo)) :=
  State.judged_accepts (checkQuery_eq hkind) hpass

/-- Settles O32: the snapshot is that of the state the QUERY finds, and the counters are cleared after it. -/
theorem queryStoresSnapshot : Obligations.QueryStoresSnapshot := by
  intro s lv session tag body hheld f t d hpass
  have htake := State.takeQuery_eq (s := s.withLevels lv) (f := f) rfl hpass
  obtain ⟨hothers, hrest⟩ := (s.withLevels lv).releaseHeld_prepares t
  have hunits : ∀ e, ((s.withLevels lv).releaseHeld t).drive e = s.drive e :=
    fun e => (State.drive_congr (s := s.withLevels lv) (by rw [hrest]) e)
  have hreleased := (s.withLevels lv).releaseHeld_released t
  generalize (s.withLevels lv).releaseHeld t = u at htake hothers hrest hunits hreleased
  have hclear := u.clearStats_frame d (f.byte 1 == 0x01)
  have hx : u.clearStats d (f.byte 1 == 0x01) = { s.withLevels lv with
      tags := (u.clearStats d (f.byte 1 == 0x01)).tags
      buffers := (u.clearStats d (f.byte 1 == 0x01)).buffers
      units := (u.clearStats d (f.byte 1 == 0x01)).units } := by
    rw [hclear, hrest]
  have hquiet : ∀ v, v ≠ t → (u.clearStats d (f.byte 1 == 0x01)).tag v = (s.withLevels lv).tag v := by
    intro v hv
    rw [hclear]
    exact hothers v hv
  have hbuffers : (s.withLevels lv).BuffersReleased (u.clearStats d (f.byte 1 == 0x01)) t none := by
    rw [hclear]
    exact hreleased
  obtain ⟨htag, hquiet, hdrive, hlist, hstall, hreleased, hframe⟩ := State.acceptDone_spec (t := t) d
    (.query (f.byte 1 == 0x01) ((s.withLevels lv).snapshot d)) hx hquiet hbuffers fun _ => rfl
  refine ⟨_, congrArg Host.Outcome.next ((State.frameHappening_of_not_held _ _ hheld).trans
    (congrArg State.endHappening htake)), htag.trans ?_, hquiet, ?_, ?_, hlist, hstall, hreleased, hframe⟩
  · simp only [State.snapshot, State.drive_withLevels]
    cases (s.drive d).head.state <;> rfl
  · rw [hdrive, State.clearStats_drive, hunits]
    simp only [beq_iff_eq]
    rfl
  · rw [hdrive, State.clearStats_drive_other, hunits]

end Sys2Proof.Machine

/-! ## Requests: ABORT -/

namespace Sys2Proof.Machine

variable {s : State} {d : Drive} {t : TagNo}

theorem State.takeAbort_eq {f : Frame} (hkind : f.kind = 0x20) (hpass : s.firstFailure f = none) :
    s.takeAbort f = s.abortTag f f.tagNo := by
  have hrows : ∀ row ∈ s.headerRows f, row.1 = false := fun row hrow =>
    State.firstFailure_none.mp hpass row
      (State.checks_of_control (s := s) (f := f) (by rw [hkind]; rfl) ▸ List.mem_append_left _ hrow)
  exact State.judged_ok ((checkHeader_eq (by rw [hkind]; rfl)).trans (runChecks_ok f.tagNo hrows))

/-- The record of a final status rests on the tags and on the head of the request's drive (R16, R171). -/
theorem State.finish_tags {x : State} {r : Request} (st : Status) (htags : x.tags = s.tags)
    (hhead : (x.drive r.drive).head.state = (s.drive r.drive).head.state) :
    (x.finish t r st).tags = (s.finish t r st).tags := by
  simp only [State.finish, State.listEntry, State.setList, State.setTag, htags, hhead]

theorem State.leaveQueue_drive (s : State) (d : Drive) (t : TagNo) : (s.leaveQueue d t).drive d =
    { s.drive d with queue := (s.drive d).queue.filter fun u => u != t } := State.drive_setQueue s d _

theorem State.leaveQueue_drive_other (s : State) (d : Drive) (t : TagNo) :
    (s.leaveQueue d t).drive d.other = s.drive d.other := State.drive_setQueue_other s d _

/-- The end of an ACTIVE request before its pass, up to what follows at its drive (R20, R90, R100). -/
def State.quitPhase (s : State) (d : Drive) : Phase → State
  | .rotate => s.clearReservation d
  | _ => s.orphanMotion d

theorem State.abortTag_queued {f : Frame} {r : Request} {p : Nat} (h : s.tag t = .queued r p) :
    s.abortTag f t = ((s.leaveQueue r.drive t).finish t r .aborted).runOnIfDue r.drive := by
  simp only [State.abortTag, h]

theorem State.abortTag_active {f : Frame} {r : Request} {p : Nat} {ph : Phase} {m : Bool}
    (h : s.tag t = .active r p ph m) (hph : ph ≠ .pass) :
    s.abortTag f t = ((s.quitPhase r.drive ph).finish t r .aborted).afterFree r.drive := by
  cases ph with
  | pass => exact absurd rfl hph
  | _ => simp only [State.abortTag, h, State.quitPhase]

theorem State.abortTag_pass {f : Frame} {r : Request} {p : Nat} (h : s.tag t = .active r p .pass false) :
    s.abortTag f t = s.markAbort t := by
  simp only [State.abortTag, h]

theorem State.quitPhase_drive (s : State) (d : Drive) (ph : Phase) :
    (s.quitPhase d ph).drive d = (if ph = .rotate then s.drive d else { s.drive d with
      head := { (s.drive d).head with motion := motionLeft (s.drive d).head.motion } }) := by
  cases ph with
  | rotate => exact State.drive_clearReservation s d d
  | _ => exact State.orphanMotion_drive s d

theorem State.quitPhase_drive_other (s : State) (d : Drive) (ph : Phase) :
    (s.quitPhase d ph).drive d.other = s.drive d.other := by
  cases ph with
  | rotate => exact State.drive_clearReservation s d d.other
  | _ => exact State.orphanMotion_drive_other s d

theorem State.quitPhase_frame (s : State) (d : Drive) (ph : Phase) : s.quitPhase d ph = { s with
    units := (s.quitPhase d ph).units
    bus := { s.bus with reservation :=
      if ph = .rotate ∧ s.bus.reservation = some d then none else s.bus.reservation } } := by
  cases ph with
  | rotate =>
    rw [State.quitPhase, State.clearReservation_eq]
    simp
  | _ => rfl

/-- A pass under way when a request takes the abort-pending mark: a format revolution of that request is
marked to stop (R121). -/
def Pass.stopFor (x : Pass) (t : TagNo) : Pass :=
  { x with body := match x.body with
    | .formatting fill current completed stop =>
      .formatting fill current completed (stop || x.owner == .tag t)
    | body => body }

theorem Pass.stopFor_owned {x : Pass} {fill : Byte} {current : Option FormatSector} {completed : Nat}
    {stop : Bool} (howner : x.owner = .tag t) (hbody : x.body = .formatting fill current completed stop) :
    x.stopFor t = { x with body := .formatting fill current completed true } := by
  simp [Pass.stopFor, hbody, howner]

theorem Pass.stopFor_other {x : Pass}
    (h : x.owner = .tag t → ∀ fill current completed stop, x.body ≠ .formatting fill current completed stop) :
    x.stopFor t = x := by
  obtain ⟨d, track, side, owner, buffer, body⟩ := x
  cases body with
  | formatting fill current completed stop =>
    have howner : owner ≠ .tag t := fun ho => h ho fill current completed stop rfl
    simp [Pass.stopFor, howner]
  | _ => rfl

theorem State.onPassBody_eq (s : State) (f : Pass → PassBody) :
    s.onPassBody f = { s with pass := s.pass.map fun p => { p with body := f p } } := by
  have hself : ∀ p, s.pass = p → s = { s with pass := p } := by rintro _ rfl; rfl
  rcases hx : s.pass with _ | p
  · simp only [State.onPassBody, hx, Option.map_none]
    exact hself none hx
  · simp only [State.onPassBody, hx, Option.map_some]

theorem State.markAbort_spec {r : Request} {p : Nat} {m : Bool} (h : s.tag t = .active r p .pass m) :
    (s.markAbort t).tag t = .active r p .pass true
    ∧ (∀ u, u ≠ t → (s.markAbort t).tag u = s.tag u)
    ∧ s.markAbort t = { s with tags := (s.markAbort t).tags, pass := (s.markAbort t).pass }
    ∧ (s.markAbort t).pass = s.pass.map fun x => x.stopFor t := by
  have hmark : s.markAbort t = { s.setTag t (.active r p .pass true) with
      pass := s.pass.map fun x => x.stopFor t } := by
    simp only [State.markAbort, h]
    exact State.onPassBody_eq _ _
  rw [hmark]
  exact ⟨State.tag_setTag s t _, fun u hu => State.tag_setTag_ne s hu _, rfl, rfl⟩

/-- Settles O34: the three rows of Table 1-7 that act, each a finish or a mark. -/
theorem abortByTargetState : Obligations.AbortByTargetState := by
  intro s lv session tag hheld f t hpass
  have hexec : exec (.abort lv session tag []) s = .next ((s.withLevels lv).abortTag f t).endHappening :=
    congrArg Host.Outcome.next ((State.frameHappening_of_not_held _ _ hheld).trans
      (congrArg State.endHappening (State.takeAbort_eq (s := s.withLevels lv) rfl hpass)))
  refine ⟨fun r p htag => ?_, fun r p ph m htag hph => ?_, fun r p htag => ?_⟩
  · rw [State.abortTag_queued (s := s.withLevels lv) htag] at hexec
    refine ⟨_, hexec, ?_, rfl, ?_, ?_, rfl⟩
    · rw [State.finishTag_queued htag]
      refine State.finish_tags .aborted rfl ?_
      rw [State.leaveQueue_drive]
      rfl
    · exact State.leaveQueue_drive _ _ _
    · exact State.leaveQueue_drive_other _ _ _
  · rw [State.abortTag_active (s := s.withLevels lv) htag hph] at hexec
    have hframe := (s.withLevels lv).quitPhase_frame r.drive ph
    refine ⟨_, hexec, ?_, ?_, State.quitPhase_drive _ _ _, State.quitPhase_drive_other _ _ _, ?_, ?_⟩
    · rw [State.finishTag_active htag]
      refine State.finish_tags .aborted (by rw [hframe]; rfl) ?_
      rw [State.quitPhase_drive]
      split <;> rfl
    · rw [hframe]
      rfl
    · rw [hframe]
      rfl
    · rw [hframe]
      rfl
  · rw [State.abortTag_pass (s := s.withLevels lv) htag] at hexec
    obtain ⟨hmarked, hothers, hframe, hpassed⟩ := State.markAbort_spec (s := s.withLevels lv) htag
    refine ⟨_, hexec, hmarked, hothers, hframe, fun x fill current completed stop hx howner hbody => ?_, fun h => ?_⟩
    · rw [hpassed, State.withLevels_pass, hx, Option.map_some, x.stopFor_owned howner hbody]
    · rw [hpassed, State.withLevels_pass]
      cases hx : s.pass with
      | none => rfl
      | some x =>
        rw [Option.map_some, Pass.stopFor_other fun howner fill current completed stop =>
          h x fill current completed stop hx howner]

end Sys2Proof.Machine

/-! ## Spindles: spin-up, timers, and an acceptance at the drive -/

namespace Sys2Proof.Machine

variable {s : State} {d : Drive}

/-! ### An acceptance at the drive -/

/-- A newcomer overtakes nothing when no request of its drive is in ROTATE (R42). -/
theorem State.tryOvertake_no_rotate (t : TagNo)
    (h : ∀ u r p m, s.activeTag d = some u → s.tag u ≠ .active r p .rotate m) : s.tryOvertake d t = s := by
  unfold State.tryOvertake
  split
  · rfl
  · next u hu =>
    split
    · next hactive => exact absurd hactive (h u _ _ _ hu)
    · rfl

theorem State.acceptedAt_turning {t : TagNo} (h : (s.drive d).spindle.condition = .turning) :
    s.acceptedAt d t = if s.isFree d then (s.cancelRunOn d).afterFree d else s.tryOvertake d t := by
  simp only [State.acceptedAt, h]

/-- Settles O30: the rows of Table 2-1. -/
theorem acceptanceAtTheDrive : Obligations.AcceptanceAtTheDrive := by
  refine fun s d t => ⟨fun h => ?_, fun h => ?_, fun h hfree => ?_, fun h hfree hrotate => ?_⟩
  · simp only [State.acceptedAt, h]
    rfl
  · simp only [State.acceptedAt, h]
  · rw [State.acceptedAt_turning h, if_pos hfree]
    rfl
  · rw [State.acceptedAt_turning h, if_neg (by rw [hfree]; decide), State.tryOvertake_no_rotate t hrotate]

/-! ### Timers -/

theorem exec_not_held {s : State} {f : State → State} (hheld : s.resetHold = none) :
    (Host.Outcome.next (s.unlessHeld f) : Host.Outcome State Fault Refusal) = .next (f s) :=
  congrArg Host.Outcome.next (State.unlessHeld_none hheld)

/-- Settles O45: a timer that runs brings its failure or its stop, and one that does not brings nothing. -/
theorem spindleTimersExpire : Obligations.SpindleTimersExpire := by
  intro s lv d hheld x t
  have hspin : exec (.spinUpTimerExpiry lv d) s = .next (t.spinUpExpired d) := exec_not_held hheld
  have hdog : exec (.indexWatchdogExpiry lv d) s = .next (t.watchdogExpired d) := exec_not_held hheld
  have hrun : exec (.runOnTimerExpiry d) s = .next (s.runOnExpired d) := exec_not_held hheld
  have hx : (t.drive d).spindle = x := rfl
  rw [hspin, hdog, hrun]
  refine ⟨fun n m hn hm => ?_, fun n hn => ?_, fun n hn => ?_, fun hn => ?_, fun hn => ?_, fun hn => ?_⟩
  · simp only [State.spinUpExpired, hx, hn, hm, Option.any_some]
  · simp only [State.watchdogExpired, hx, hn]
  · simp only [State.runOnExpired, show (s.drive d).spindle = x from rfl, hn]
    rfl
  · simp only [State.spinUpExpired, hx, hn]
  · simp only [State.watchdogExpired, hx, hn]
  · simp only [State.runOnExpired, show (s.drive d).spindle = x from rfl, hn]

/-! ### Spin-up -/

theorem apart_eq (a b : Nat) : apart a b = ((a : Int) - b).natAbs := by
  unfold apart
  omega

/-- The stability test of R65 on the signed difference. -/
theorem stable_iff (earlier later : Word16) : stable earlier later = true ↔
    32 * ((later.toNat : Int) - earlier.toNat).natAbs ≤ earlier.toNat := by
  rw [stable, apart_eq, decide_eq_true_iff]

theorem exec_indexPulse_starting (lv : Levels) (interval : Word16) {m : Measure} (hheld : s.resetHold = none)
    (hcond : (s.drive d).spindle.condition = .starting) (hm : (s.drive d).spindle.measure = some m) :
    exec (.indexPulse lv d interval) s = .next ((s.withLevels lv).measureIndex d m interval) := by
  refine (exec_not_held hheld).trans (congrArg Host.Outcome.next ?_)
  simp only [State.indexPulse, State.drive_withLevels, hcond, hm]

theorem exec_sectorPulse_starting (lv : Levels) {m : Measure} (hheld : s.resetHold = none)
    (hcond : (s.drive d).spindle.condition = .starting) (hm : (s.drive d).spindle.measure = some m) :
    exec (.sectorPulse lv d) s = .next ((s.withLevels lv).measureSector d m) := by
  refine (exec_not_held hheld).trans (congrArg Host.Outcome.next ?_)
  simp only [State.sectorPulse, State.drive_withLevels, hcond, hm]

/-- Settles O43: the pulses by condition, and the measurement of a spin-up by how far it has come. -/
theorem spinUpMeasures : Obligations.SpinUpMeasures := by
  intro s lv d interval hheld x g t measured
  refine ⟨fun hx => ?_, fun m hcond hm => ?_⟩
  · have hindex : exec (.indexPulse lv d interval) s = .next (t.indexPulse d interval) := exec_not_held hheld
    have hsector : exec (.sectorPulse lv d) s = .next (t.sectorPulse d) := exec_not_held hheld
    have hspindle : (t.drive d).spindle = x := rfl
    rw [hindex, hsector]
    rcases hx with hx | hx <;>
      simp only [State.indexPulse, State.sectorPulse, hspindle, hx, and_self]
  · rw [exec_sectorPulse_starting lv hheld hcond hm, exec_indexPulse_starting lv interval hheld hcond hm]
    refine ⟨rfl, fun hseen => ?_, fun hseen hearlier => ?_, fun e hseen hearlier => ⟨fun hclose => ?_,
      fun hclose hcount => ?_, fun hclose hcount => ?_⟩⟩
    · rw [State.measureIndex, if_pos hseen]
      rfl
    all_goals simp only [State.measureIndex, hseen, hearlier, Bool.true_eq_false, if_false]
    · rfl
    · rw [if_neg fun hs => hclose ((stable_iff e interval).mp hs)]
      rfl
    · rw [if_pos ((stable_iff e interval).mpr hclose), if_neg (show m.sectors ≠ (t.geometry d).sectors from hcount)]
      rfl
    · rw [if_pos ((stable_iff e interval).mpr hclose), if_pos (show m.sectors = (t.geometry d).sectors from hcount)]
      rfl

end Sys2Proof.Machine

/-! ## Head motions: steps, settles and the STEP grants -/

namespace Sys2Proof.Machine

variable {s : State} {d : Drive} {m : Motion}

/-! ### One step -/

theorem State.setHead_stepPulse (s : State) (d : Drive) (h : Head) :
    (s.setHead d h).stepPulse d = s.stepped d s.port.dir h := by
  simp only [State.stepPulse, State.stepped, State.setHead, State.setDrive, State.drive, State.geometry,
    Pair.get_set, Pair.set_set]

/-- A pulse writes the head, so it does not matter what stood there. -/
theorem State.setHead_stepped (s : State) (d : Drive) (x : Direction) (h k : Head) :
    (s.setHead d h).stepped d x k = s.stepped d x k := by
  simp only [State.stepped, State.setHead, State.setDrive, State.drive, State.geometry,
    Pair.get_set, Pair.set_set]

/-- A pulse writes DIR, so it does not matter what stood there. -/
theorem State.setDir_stepped (s : State) (d : Drive) (x y : Direction) (h : Head) :
    (s.setDir y).stepped d x h = s.stepped d x h := rfl

theorem State.seekStep_steps {p : Nat} (h : p ≠ m.target) : s.seekStep d m p =
    s.stepped d s.port.dir { (s.drive d).head with running := some (nearer p m.target) } := by
  rw [State.seekStep, if_neg h, State.setHead_stepPulse]

theorem State.beginSeek_steps {p : Nat} (h : p ≠ m.target) : s.beginSeek d m p =
    s.stepped d (directionTo p m.target) { (s.drive d).head with running := some (nearer p m.target) } := by
  rw [State.beginSeek, if_neg h, State.seekStep_steps h]
  rfl

theorem nearer_of_lt {p target : Nat} (h : p < target) : nearer p target = p + 1 := if_pos h

theorem nearer_of_gt {p target : Nat} (h : target < p) : nearer p target = p - 1 := if_neg (by omega)

theorem directionTo_of_lt {p target : Nat} (h : p < target) : directionTo p target = .inward := if_pos h

theorem directionTo_of_gt {p target : Nat} (h : target < p) : directionTo p target = .outward :=
  if_neg (by omega)

/-! ### The end of the stepping -/

theorem State.ownerPhase_tag_ne (s : State) {o : Owner} (ph : Phase) {t : TagNo} (h : o ≠ .tag t) :
    (s.ownerPhase o ph).tag t = s.tag t := by
  cases o with
  | tag u => exact State.setPhase_tag_ne fun he => h (by rw [he])
  | detached => rfl

theorem State.ownerPhase_frame (s : State) (o : Owner) (ph : Phase) :
    s.ownerPhase o ph = { s with tags := (s.ownerPhase o ph).tags } := by
  cases o with
  | tag u => exact State.setPhase_eq s u ph
  | detached => rfl

/-- The end of a stepping, before its owner is moved (R87). -/
def State.landed (s : State) (d : Drive) (m : Motion) : State :=
  s.releaseBus.setHead d
    { (s.drive d).head with
      state := .settling m.target, motion := some { m with stage := .settling }
      stepTimer := none, settleTimer := some (10 * (s.geometry d).settleTime) }

theorem State.endStepping_eq (s : State) (d : Drive) (m : Motion) :
    s.endStepping d m = (s.landed d m).ownerPhase m.owner .settle := rfl

theorem State.endStepping_settles (h : (s.drive d).head.running = some m.target) :
    s.Settles (s.endStepping d m) d m := by
  have hframe := State.ownerPhase_frame (s.landed d m) m.owner .settle
  have hdrive : ∀ e, (s.endStepping d m).drive e = (s.landed d m).drive e :=
    State.drive_congr (by rw [State.endStepping_eq, hframe])
  constructor
  case drive =>
    rw [hdrive, State.landed, State.drive_setHead, ← h]
    rfl
  case other =>
    rw [hdrive]
    exact State.drive_setHead_other _ d _
  case bus =>
    rw [State.endStepping_eq, hframe]
    rfl
  case port =>
    rw [State.endStepping_eq, hframe]
    rfl
  case owner =>
    intro t r p ph k howner htag
    rw [State.endStepping_eq, howner]
    have htag' : (s.landed d m).tag t = .active r p ph k := htag
    exact (congrArg (State.tag · t) (State.setPhase_active htag')).trans (State.tag_setTag _ t _)
  case others => exact fun t ht => State.ownerPhase_tag_ne _ _ ht
  case rest =>
    rw [State.endStepping_eq, hframe]
    rfl

/-- A settle writes the head outright, so it does not matter what stood there. -/
theorem State.Settles.of_setHead {q : State} {h : Head} (hq : (s.setHead d h).Settles q d m) :
    s.Settles q d m := by
  obtain ⟨hdrive, hother, hbus, hport, howner, hothers, hrest⟩ := hq
  refine ⟨?_, ?_, hbus, hport, howner, hothers, ?_⟩
  · rw [hdrive, State.drive_setHead]
    simp only [State.geometry, State.drive_setHead]
  · rw [hother, State.drive_setHead_other]
  · rw [hrest]
    rfl

theorem State.beginSeek_settles (h : m.target = 0) : s.Settles
    ((s.setHead d { (s.drive d).head with running := some 0 }).beginSeek d m 0) d m := by
  rw [State.beginSeek, if_pos h.symm]
  refine State.Settles.of_setHead (State.endStepping_settles ?_)
  rw [State.drive_setHead, h]

/-! ### The expiry of the step timer -/

theorem exec_stepTimer_seek (lv : Levels) {n p : Nat} (hheld : s.resetHold = none)
    (htimer : (s.drive d).head.stepTimer = some n) (hm : (s.drive d).head.motion = some m)
    (hstage : m.stage = .stepping) (hrunning : (s.drive d).head.running = some p) :
    exec (.stepTimerExpiry lv d) s = .next ((s.withLevels lv).seekStep d m p).endHappening := by
  refine (exec_not_held hheld).trans (congrArg Host.Outcome.next ?_)
  simp only [State.stepExpired, State.drive_withLevels, htimer, hm, hstage, hrunning, if_true]

theorem exec_stepTimer_recal (lv : Levels) {n : Nat} (hheld : s.resetHold = none)
    (htimer : (s.drive d).head.stepTimer = some n) (hm : (s.drive d).head.motion = some m)
    (hstage : m.stage = .stepping) (hrunning : (s.drive d).head.running = none) :
    exec (.stepTimerExpiry lv d) s =
      .next (((s.withLevels lv).trk0Check d m).afterFree d).endHappening := by
  refine (exec_not_held hheld).trans (congrArg Host.Outcome.next ?_)
  simp only [State.stepExpired, State.drive_withLevels, htimer, hm, hstage, hrunning, if_true]

/-- Settles O49: one track nearer with one pulse more, or the end of the stepping at the target. -/
theorem seekSteps : Obligations.SeekSteps := by
  intro s lv d m n p hheld htimer hm hstage hrunning t
  rw [exec_stepTimer_seek lv hheld htimer hm hstage hrunning]
  refine ⟨fun h => ?_, fun h => ?_, fun h => ⟨_, rfl, ?_⟩⟩
  · rw [State.seekStep_steps h.ne, nearer_of_lt h]
    rfl
  · rw [State.seekStep_steps h.ne', nearer_of_gt h]
    rfl
  · rw [State.seekStep, if_pos h]
    exact State.endStepping_settles (s := t) (hrunning.trans (congrArg some h))

/-! ### A recalibration's sample of TRK0n -/

theorem State.trk0Check_found (h : s.levels.trk0.get d = true) (htarget : 0 < m.target) :
    s.trk0Check d m = s.stepped d .inward { (s.drive d).head with running := some 1 } := by
  rw [State.trk0Check, if_pos h, State.trackZeroFound, State.beginSeek_steps htarget.ne,
    directionTo_of_lt htarget, nearer_of_lt htarget, State.setHead_stepped, State.drive_setHead]

theorem State.trk0Check_settles (h : s.levels.trk0.get d = true) (htarget : m.target = 0) :
    s.Settles (s.trk0Check d m) d m := by
  rw [State.trk0Check, if_pos h]
  exact State.beginSeek_settles htarget

theorem State.trk0Check_steps (h : s.levels.trk0.get d = false)
    (hcount : m.stepCount < (s.geometry d).tracks + 8) : s.trk0Check d m =
      s.stepped d s.port.dir
        { (s.drive d).head with motion := some { m with stepCount := m.stepCount + 1 } } := by
  rw [State.trk0Check, if_neg (by rw [h]; decide), if_pos hcount, State.recalStep, State.setHead_stepPulse]

theorem reachedAt_seekFail (w : Work) (h : HeadState) : reachedAt w .seekFail h = none := by
  cases w <;> rfl

/-- A recalibration that fails, before its owner is told (R88). -/
def State.lostHead (s : State) (d : Drive) : State :=
  ((s.raiseEvent d .headFault).releaseBus).setHead d .lost

theorem State.lostHead_frame (s : State) (d : Drive) : s.lostHead d = { s with
    units := (s.lostHead d).units, bus := { s.bus with holder := none }, port := s.port.idle
    list := (s.raiseEvent d .headFault).list, stall := (s.raiseEvent d .headFault).stall } := by
  rw [State.lostHead, State.raiseEvent_eq]
  rfl

theorem State.lostHead_drive (s : State) (d : Drive) :
    (s.lostHead d).drive d = { s.drive d with head := .lost }
    ∧ (s.lostHead d).drive d.other = s.drive d.other := by
  refine ⟨(State.drive_setHead _ d _).trans ?_, (State.drive_setHead_other _ d _).trans ?_⟩ <;>
    rw [State.drive_releaseBus, State.raiseEvent_drive]

theorem State.failOwner_frame (s : State) (o : Owner) : s.failOwner o = { s with
    tags := (s.failOwner o).tags, list := (s.failOwner o).list, stall := (s.failOwner o).stall } := by
  unfold State.failOwner
  split
  · split <;> rfl
  · rfl

theorem State.failOwner_tag_ne (s : State) {o : Owner} {t : TagNo} (h : o ≠ .tag t) :
    (s.failOwner o).tag t = s.tag t := by
  cases o with
  | detached => rfl
  | tag u =>
    have hne : t ≠ u := fun he => h (by rw [he])
    unfold State.failOwner
    simp only
    split
    · exact State.tag_setTag_ne s hne _
    · rfl

theorem State.headFault_fails (hone : s.list.countP (Entry.isEventOf d) ≤ 1) :
    s.HeadFails (s.headFault d m) d m := by
  have hlost := s.lostHead_frame d
  have hframe := (s.lostHead d).failOwner_frame m.owner
  have hevent := State.raiseEvent_eventAdded .headFault hone
  have hfault : s.headFault d m = (s.lostHead d).failOwner m.owner := rfl
  obtain ⟨hdrive, hother⟩ := s.lostHead_drive d
  rw [hfault]
  constructor
  case drive => rw [State.drive_congr (s := s.lostHead d) (by rw [hframe]), hdrive]; rfl
  case other => rw [State.drive_congr (s := s.lostHead d) (by rw [hframe]), hother]
  case bus =>
    rw [hframe, hlost]
  case port =>
    rw [hframe, hlost]
  case owner =>
    intro t r p ph k howner htag
    have htag' : (s.lostHead d).tag t = .active r p ph k := by
      rw [hlost]
      exact htag
    have hfinish : (s.lostHead d).failOwner m.owner = (s.lostHead d).finish t r .seekFail := by
      rw [howner]
      simp only [State.failOwner, htag']
    obtain ⟨hdone, -, hlist, -, -⟩ := (s.lostHead d).finish_spec t r .seekFail
    rw [reachedAt_seekFail] at hdone
    rw [hfinish]
    refine ⟨hdone, _, hevent, hlist.trans ?_⟩
    rw [hlost]
  case detached =>
    intro howner
    rw [howner]
    show EventAdded s.list (s.lostHead d).list d .headFault
    rw [hlost]
    exact hevent
  case others =>
    intro t ht
    rw [State.failOwner_tag_ne _ ht, hlost]
    rfl
  case rest =>
    rw [hframe, hlost]

/-- Settles O50: the sample of TRK0n decides between the seek part, one step more, and HEAD_FAULT. -/
theorem recalibrationChecks : Obligations.RecalibrationChecks := by
  intro s lv d m n hheld htimer hm hstage hrunning hone t
  refine ⟨_, exec_stepTimer_recal lv hheld htimer hm hstage hrunning, fun h htarget => ?_,
    fun h htarget => ?_, fun h hcount => ?_, fun h hcount => ?_⟩
  · exact State.trk0Check_settles (s := t) h htarget
  · exact State.trk0Check_found (s := t) h htarget
  · exact State.trk0Check_steps (s := t) h hcount
  · have hcount' : ¬ m.stepCount < (t.geometry d).tracks + 8 := not_lt.mpr hcount
    have hneg : ¬ t.levels.trk0.get d = true := by
      rw [show t.levels.trk0.get d = false from h]
      decide
    rw [State.trk0Check, if_neg hneg, if_neg hcount']
    exact State.headFault_fails (s := t) hone

/-! ### The end of a settle -/

theorem exec_settleTimer (lv : Levels) {n : Nat} (hheld : s.resetHold = none)
    (htimer : (s.drive d).head.settleTimer = some n) (hm : (s.drive d).head.motion = some m)
    (hstage : m.stage = .settling) : exec (.settleTimerExpiry lv d) s =
      .next ((((s.withLevels lv).setHead d { (s.drive d).head with
        state := .onTrack m.target, motion := none, settleTimer := none }).settledOwner
          m.owner).afterFree d).endHappening := by
  refine (exec_not_held hheld).trans (congrArg Host.Outcome.next ?_)
  simp only [State.settleExpired, State.drive_withLevels, htimer, hm, hstage, if_true]

theorem State.settledOwner_frame (s : State) (o : Owner) : s.settledOwner o = { s with
    tags := (s.settledOwner o).tags, list := (s.settledOwner o).list
    stall := (s.settledOwner o).stall } := by
  unfold State.settledOwner
  split
  · rfl
  · split
    · split
      · rw [State.setPhase_eq]
      · rfl
    · rfl

theorem State.settledOwner_tag_ne (s : State) {o : Owner} {t : TagNo} (h : o ≠ .tag t) :
    (s.settledOwner o).tag t = s.tag t := by
  cases o with
  | detached => rfl
  | tag u =>
    have hne : t ≠ u := fun he => h (by rw [he])
    unfold State.settledOwner
    simp only
    split
    · split
      · exact State.setPhase_tag_ne hne
      · exact State.tag_setTag_ne s hne _
    · rfl

/-- An owner that transfers goes on to ROTATE (R89, Table 5-2). -/
theorem State.settledOwner_rotates {t : TagNo} {r : Request} {p : Nat} {ph : Phase} {k : Bool}
    (htag : s.tag t = .active r p ph k) (hpulse : r.work.startingPulse.isSome = true) :
    s.settledOwner (.tag t) = s.setTag t (.active r p .rotate k) := by
  simp only [State.settledOwner, htag, hpulse, if_true]
  exact State.setPhase_active htag

/-- A SEEK or RECAL ends OK (R89, Table 5-2). -/
theorem State.settledOwner_finishes {t : TagNo} {r : Request} {p : Nat} {ph : Phase} {k : Bool}
    (htag : s.tag t = .active r p ph k) (hpulse : r.work.startingPulse.isSome = false) :
    s.settledOwner (.tag t) = s.finish t r .ok := by
  simp only [State.settledOwner, htag, hpulse, Bool.false_eq_true, if_false]

/-- Settles O51: the motion ends at its target, and the owner acts by its kind. -/
theorem settleEnds : Obligations.SettleEnds := by
  intro s lv d m n hheld htimer hm hstage
  have hexec := exec_settleTimer lv hheld htimer hm hstage
  generalize hu : (s.withLevels lv).setHead d { (s.drive d).head with
    state := .onTrack m.target, motion := none, settleTimer := none } = u at hexec
  have hframe := u.settledOwner_frame m.owner
  have hdrive : ∀ e, (u.settledOwner m.owner).drive e = u.drive e := State.drive_congr (by rw [hframe])
  refine ⟨_, hexec, ?_, ?_, fun t ht => ?_, fun howner => ?_, fun t r p ph k howner htag =>
    ⟨fun hpulse => ?_, fun target hwork => ?_⟩, ?_⟩
  · rw [hdrive, ← hu, State.drive_setHead]
    rfl
  · rw [hdrive, ← hu, State.drive_setHead_other]
    rfl
  · rw [State.settledOwner_tag_ne u ht, ← hu]
    rfl
  · rw [howner, ← hu]
    exact ⟨rfl, rfl⟩
  · have htag' : u.tag t = .active r p ph k := hu ▸ htag
    rw [howner, State.settledOwner_rotates htag' hpulse, State.tag_setTag, ← hu]
    exact ⟨rfl, rfl, rfl⟩
  · have htag' : u.tag t = .active r p ph k := hu ▸ htag
    have hpulse : r.work.startingPulse.isSome = false := by
      rcases hwork with hw | ⟨hw, -⟩ <;> rw [hw] <;> rfl
    have hreached : ∀ h, reachedAt r.work .ok h = some target := by
      rcases hwork with hw | ⟨hw, rfl⟩ <;> rw [hw] <;> exact fun _ => rfl
    obtain ⟨hdone, -, hlist, -, -⟩ := u.finish_spec t r .ok
    rw [hreached] at hdone
    rw [howner, State.settledOwner_finishes htag' hpulse]
    refine ⟨hdone, hlist.trans ?_⟩
    rw [← hu]
    rfl
  · rw [hframe, ← hu]
    rfl

/-! ### The STEP grants -/

theorem State.grantable_iff : s.grantable d = true ↔ s.CanStep d := by
  have hneed : s.stepNeed d = true ↔ ∃ m, (s.drive d).head.motion = some m ∧ m.stage = .waiting := by
    rw [State.stepNeed, Option.any_eq_true]
    simp
  rw [State.grantable, Bool.and_eq_true, hneed, State.CanStep, State.barred]
  simp

theorem State.nextGrant_none (h : ∀ d, ¬ s.CanStep d) : s.nextGrant = none := by
  have hno : ∀ d, s.grantable d = false := fun d => by
    rw [← Bool.not_eq_true, State.grantable_iff]
    exact h d
  simp only [State.nextGrant, hno]

/-- Of two needs the one that the alternation memory does not name, drive 0 when it names none (R96). -/
theorem State.nextGrant_some (h : s.CanStep d)
    (hturn : s.CanStep d.other → s.bus.alternation ≠ some d ∧ (s.bus.alternation = none → d = .d0)) :
    s.nextGrant = some d := by
  rw [← State.grantable_iff] at h
  rcases hother : s.grantable d.other with _ | _
  · cases d <;> simp only [Drive.other] at hother <;> simp only [State.nextGrant, h, hother]
  · obtain ⟨hnamed, hnone⟩ := hturn (State.grantable_iff.mp hother)
    cases d
    · simp only [Drive.other] at hother
      simp only [State.nextGrant, h, hother, if_neg hnamed]
    · simp only [Drive.other] at hother
      have hd0 : s.bus.alternation = some .d0 := by
        rcases ha : s.bus.alternation with _ | _ | _
        · cases hnone ha
        · rfl
        · exact absurd ha hnamed
      simp only [State.nextGrant, h, hother, if_pos hd0]

/-- The head of a drive whose need is granted (R84, R95). -/
def Head.granted (h : Head) (m : Motion) : Head :=
  { h with state := .moving m.target, motion := some { m with stage := .stepping } }

theorem State.grantStep_seek {p : Nat} (hm : (s.drive d).head.motion = some m) (hkind : m.kind = .seek)
    (hrunning : (s.drive d).head.running = some p) : s.grantStep d =
      ((s.holdBus d .step).setHead d ((s.drive d).head.granted m)).beginSeek d
        { m with stage := .stepping } p := by
  simp only [State.grantStep, hm, State.drive_holdBus, hkind, hrunning, Head.granted]

/-- The state in which a recalibration samples TRK0n for the first time (R84, R86). -/
def State.recalibrating (s : State) (d : Drive) (m : Motion) : State :=
  ((s.stepGranted d true).setDir .outward).setHead d { (s.drive d).head.granted m with running := none }

theorem State.stepGranted_false (s : State) (d : Drive) : s.stepGranted d false = s.holdBus d .step := by
  have hunits : s.units.set d (s.drive d) = s.units := Pair.set_get s.units d
  cases d <;> exact congrArg (fun u => { s.holdBus _ .step with units := u }) hunits

theorem State.recalibrating_eq (s : State) (d : Drive) (m : Motion) :
    (((s.holdBus d .step).setHead d { (s.drive d).head.granted m with running := none }).raiseRecalibrations
      d).setDir .outward = s.recalibrating d m := by
  simp only [State.recalibrating, State.raiseRecalibrations, State.setStats, State.setHead, State.setDrive,
    State.setDir, State.holdBus, State.stepGranted, State.drive, Pair.get_set, Pair.set_set, bump_eq, if_true]
  cases d <;> rfl

theorem State.grantStep_recal (hm : (s.drive d).head.motion = some m) (hkind : m.kind ≠ .seek) :
    s.grantStep d = (s.recalibrating d m).trk0Check d { m with stage := .stepping } := by
  rw [← State.recalibrating_eq]
  simp only [State.grantStep, hm, State.drive_holdBus]
  split
  · next hseek _ => exact absurd hseek hkind
  · rfl

theorem State.recalibrating_head (s : State) (d : Drive) (m : Motion) :
    ((s.recalibrating d m).drive d).head = { (s.drive d).head.granted m with running := none } := by
  rw [State.recalibrating, State.drive_setHead]

theorem State.recalibrating_geometry (s : State) (d : Drive) (m : Motion) :
    (s.recalibrating d m).geometry d = s.geometry d := by
  have hrecord : ((s.stepGranted d true).drive d).record = (s.drive d).record := by
    show ((s.units.set d _).get d).record = _
    rw [Pair.get_set]
  rw [State.geometry, State.recalibrating, State.drive_setHead, State.drive_setDir, State.geometry, ← hrecord]

theorem State.recalibrating_stepped (s : State) (d : Drive) (m : Motion) (x : Direction) (h : Head) :
    (s.recalibrating d m).stepped d x h = (s.stepGranted d true).stepped d x h := by
  rw [State.recalibrating, State.setHead_stepped, State.setDir_stepped]

/-- Settles O52: which need is granted, and what the grant does by its kind. -/
theorem stepNeedsAreGranted : Obligations.StepNeedsAreGranted := by
  refine fun s => ⟨rfl, fun h => if_neg h, fun h => ?_, fun d hholder hcan hturn => ⟨?_, fun m hm => ?_⟩⟩
  · rw [State.grantOne, State.nextGrant_none h]
    split <;> rfl
  · rw [State.grantOne, if_pos hholder, State.nextGrant_some hcan hturn]
  · intro moving recal
    have hseek : ∀ p, p ≠ m.target → m.kind = .seek → (s.drive d).head.running = some p →
        s.grantStep d = (s.stepGranted d false).stepped d (directionTo p m.target)
          { moving with running := some (nearer p m.target) } := fun p hp hkind hrunning => by
      rw [State.grantStep_seek hm hkind hrunning,
        State.beginSeek_steps (m := { m with stage := .stepping }) hp, State.setHead_stepped,
        State.drive_setHead, State.stepGranted_false]
      rfl
    refine ⟨fun p hkind hrunning hlt => ?_, fun p hkind hrunning hgt => ?_, fun hkind htrk hcount => ?_,
      fun hkind htrk htarget => ?_, fun hkind htrk htarget => ?_⟩
    · rw [hseek p hlt.ne hkind hrunning, directionTo_of_lt hlt, nearer_of_lt hlt]
    · rw [hseek p hgt.ne' hkind hrunning, directionTo_of_gt hgt, nearer_of_gt hgt]
    all_goals rw [State.grantStep_recal hm hkind]
    · rw [State.trk0Check_steps (s := s.recalibrating d m) htrk
        (by rw [State.recalibrating_geometry]; exact hcount), State.recalibrating_stepped,
        State.recalibrating_head]
      rfl
    · rw [State.trk0Check_found (s := s.recalibrating d m) (m := { m with stage := .stepping }) htrk htarget, State.recalibrating_stepped,
        State.recalibrating_head]
      rfl
    · have hsettles := State.trk0Check_settles (s := s.recalibrating d m) (m := { m with stage := .stepping })
        htrk htarget
      exact { hsettles.of_setHead with }

end Sys2Proof.Machine

/-! ## Sector records and the stages inside a pass -/

namespace Sys2Proof.Machine

/-! ### The bits of a run of bytes -/

/-- Each byte's most significant bit comes first (R170). -/
theorem byteBits_getElem? (b : Byte) {j : Nat} (h : j < 8) : (byteBits b)[j]? = some (b.getLsbD (7 - j)) := by
  have hmsb : (byteBits b)[j]? = some (b.getMsbD j) := by
    interval_cases j <;> rfl
  rw [hmsb, BitVec.getMsbD_eq_getLsbD, decide_eq_true h, Bool.true_and]

theorem mediaBits_getElem? {l : List Byte} {i j : Nat} (hi : i < l.length) (hj : j < 8) :
    (mediaBits l)[8 * i + j]? = some ((l.getD i 0).getLsbD (7 - j)) := by
  induction l generalizing i with
  | nil => cases hi
  | cons b l ih =>
    rw [mediaBits_cons]
    cases i with
    | zero =>
      rw [List.getElem?_append_left (by rw [byteBits_length]; omega), Nat.mul_zero, Nat.zero_add,
        byteBits_getElem? b hj]
      rfl
    | succ i =>
      rw [List.getElem?_append_right (by rw [byteBits_length]; omega), byteBits_length,
        show 8 * (i + 1) + j - 8 = 8 * i + j by omega, ih (Nat.lt_of_succ_lt_succ hi)]
      rfl

theorem byteAt_mediaBits_getD {l : List Byte} {i : Nat} (h : i < l.length) :
    byteAt (mediaBits l) i = l.getD i 0 := by
  rw [← List.append_nil (mediaBits l), byteAt_mediaBits [] h, List.getD_eq_getElem _ _ h]

theorem byteBits_byteOfBits {bits : List Bool} (h : bits.length = 8) : byteBits (byteOfBits bits) = bits := by
  match bits, h with
  | [a0, a1, a2, a3, a4, a5, a6, a7], _ =>
    revert a0 a1 a2 a3 a4 a5 a6 a7
    decide

/-- Bits that fill whole bytes are the bits of the bytes read from them (R170). -/
theorem mediaBits_range : ∀ (n : Nat) {bits : List Bool}, bits.length = 8 * n →
    mediaBits ((List.range n).map (byteAt bits)) = bits
  | 0, bits, h => by
    rw [List.length_eq_zero_iff.mp h]
    rfl
  | n + 1, bits, h => by
    have hrest : ∀ i, byteAt bits (i + 1) = byteAt (bits.drop 8) i := fun i => by
      rw [byteAt, byteAt, List.drop_drop, show 8 * (i + 1) = 8 + 8 * i by omega]
    have hfirst : byteBits (byteAt bits 0) = bits.take 8 :=
      byteBits_byteOfBits (by rw [List.length_take]; simp; omega)
    rw [List.range_succ_eq_map, List.map_cons, List.map_map, mediaBits_cons, hfirst]
    have htail := mediaBits_range n (bits := bits.drop 8) (by rw [List.length_drop]; omega)
    rw [show byteAt bits ∘ Nat.succ = byteAt (bits.drop 8) from funext hrest, htail, List.take_append_drop]

/-! ### The layout of a record -/

section Record

variable (track side sector : Nat) (data : Block)

/-- The record up to its data: preamble, sync mark and ID (R103). -/
def recordHead : List Byte := List.replicate 10 0x55 ++ [0x3C, 0x5A] ++ idBytes track side sector

theorem recordHead_length : (recordHead track side sector).length = 14 := rfl

theorem sectorRecord_eq : sectorRecord track side sector data.val =
    recordHead track side sector ++ (data.val
      ++ word16Bytes (mediaCheck (idBytes track side sector ++ data.val))) :=
  List.append_assoc ..

theorem sectorRecord_length : (sectorRecord track side sector data.val).length = 272 := by
  rw [sectorRecord_eq, List.length_append, List.length_append, recordHead_length, data.2, word16Bytes_length]

theorem sectorRecord_check : word16Of ((sectorRecord track side sector data.val).getD 270 0)
    ((sectorRecord track side sector data.val).getD 271 0)
      = mediaCheck (idBytes track side sector ++ data.val) := by
  have hlen : (recordHead track side sector ++ data.val).length = 270 := by
    rw [List.length_append, recordHead_length, data.2]
  rw [sectorRecord_eq, ← List.append_assoc, List.getD_append_right _ _ _ _ hlen.le,
    List.getD_append_right _ _ _ _ (by omega), hlen]
  exact word16Of_hiByte_loByte _

end Record

theorem recordOutcome_ok {check : Bool} {id : List Byte} {data : Block} {received : Word16}
    {contents : Option Block} (hcheck : mediaCheck (id ++ data.val) = received)
    (hdata : check = true → contents = some data) : recordOutcome check id data received contents = .ok := by
  rw [recordOutcome, if_neg (not_not.mpr hcheck), if_neg fun h => h.2 (hdata h.1)]

theorem Pass.recordArrived_matched {p : Pass} {checks : Bool} {n : Nat} (data : Block) (received : Word16)
    (contents : Option Block) (h : p.body = .reading checks n (.reading true)) :
    p.recordArrived data received contents = .reading checks n
      (.decided (recordOutcome checks (idBytes p.track p.side n) data received contents) (some data)) := by
  simp only [Pass.recordArrived, h]

/-- Settles O55: the layout is that of the concatenation, and the check is that of what stands before it. -/
theorem recordLayout : Obligations.RecordLayout := by
  intro track side sector data id record
  have hlength : record.length = 272 := sectorRecord_length track side sector data
  have heq : record = recordHead track side sector ++ (data.val
      ++ word16Bytes (mediaCheck (idBytes track side sector ++ data.val))) := sectorRecord_eq ..
  refine ⟨hlength, ?_, ?_, ?_, sectorRecord_check track side sector data, ?_,
    fun i j hi hj => mediaBits_getElem? (hlength ▸ hi) hj, fun i hi => byteAt_mediaBits_getD (hlength ▸ hi),
    fun p htrack hside hbody => ?_⟩
  · rw [heq]
    rfl
  · rw [heq]
    rfl
  · rw [heq, List.drop_left' (recordHead_length track side sector), List.take_left' data.2]
  · rw [mediaBits_length, hlength]
  · have houtcome := recordOutcome_ok (check := false) (contents := none)
      (sectorRecord_check track side sector data).symm fun h => by cases h
    rw [Pass.recordArrived_matched _ _ _ hbody, htrack, hside]
    exact congrArg (fun o => PassBody.reading false sector (.decided o (some data))) houtcome

/-! ### What a read or check pass hears -/

theorem State.onPassBody_some {s : State} {p : Pass} (f : Pass → PassBody) (h : s.pass = some p) :
    s.onPassBody f = { s with pass := some { p with body := f p } } := by
  simp only [State.onPassBody, h]

/-- A change of the pass that leaves its body as it is leaves the state as it is. -/
theorem State.onPassBody_self {s : State} {f : Pass → PassBody} (h : ∀ p, s.pass = some p → f p = p.body) :
    s.onPassBody f = s := by
  rcases hp : s.pass with _ | p
  · simp only [State.onPassBody, hp]
  · rw [State.onPassBody_some f hp, h p hp]
    show { s with pass := some p } = s
    rw [← hp]

theorem PassBody.syncFound_searching (checks : Bool) (n : Nat) :
    (PassBody.reading checks n .searching).syncFound = .reading checks n (.reading false) := rfl

theorem PassBody.syncFound_other {body : PassBody} (h : ∀ checks n, body ≠ .reading checks n .searching) :
    body.syncFound = body := by
  unfold PassBody.syncFound
  split
  · exact absurd rfl (h _ _)
  · rfl

theorem Pass.idArrived_reading {p : Pass} {checks : Bool} {n : Nat} (a b : Byte)
    (h : p.body = .reading checks n (.reading false)) : p.idArrived a b = .reading checks n
      (if a = BitVec.ofNat 8 p.track ∧ b = BitVec.ofNat 8 (p.side * 32 + n) then .reading true
        else .decided .idMismatch none) := by
  have hid : [a, b] = idBytes p.track p.side n ↔
      a = BitVec.ofNat 8 p.track ∧ b = BitVec.ofNat 8 (p.side * 32 + n) := by
    simp [idBytes, sideSectorByte]
  simp only [Pass.idArrived, h, hid]
  split <;> rfl

theorem Pass.idArrived_other {p : Pass} (a b : Byte)
    (h : ∀ checks n, p.body ≠ .reading checks n (.reading false)) : p.idArrived a b = p.body := by
  unfold Pass.idArrived
  split
  · next hb => exact absurd hb (h _ _)
  · rfl

theorem Pass.recordArrived_other {p : Pass} (data : Block) (received : Word16) (contents : Option Block)
    (h : ∀ checks n, p.body ≠ .reading checks n (.reading true)) :
    p.recordArrived data received contents = p.body := by
  unfold Pass.recordArrived
  split
  · next hb => exact absurd hb (h _ _)
  · rfl

/-- The outcome of a record is OK when the check is right and a check pass finds its buffer's data (R109,
R114). -/
theorem recordOutcome_eq (check : Bool) (id : List Byte) (data : Block) (received : Word16)
    (contents : Option Block) : recordOutcome check id data received contents =
      if mediaCheck (id ++ data.val) = received ∧ (check = true → contents = some data) then .ok
      else if check = true then .verifyMismatch else .dataCheck := by
  unfold recordOutcome
  by_cases hcheck : mediaCheck (id ++ data.val) = received
  · cases check <;> by_cases hdata : contents = some data <;> simp [hcheck, hdata]
  · cases check <;> simp [hcheck]

/-- Settles O56: each sample of RDATA acts on the one stage that waits for it. -/
theorem readPassListens : Obligations.ReadPassListens := by
  intro s track sideSector bits check hheld
  have hbyte : ∀ x : Bits 8, x.val = mediaBits [byteAt x.val 0] := fun x => (mediaBits_range 1 x.2).symm
  refine ⟨byteAt track.val 0, byteAt sideSector.val 0, rdataBlock bits, byteAt check.val 0,
    byteAt check.val 1, hbyte track, hbyte sideSector, (mediaBits_range 256 bits.2).symm,
    (mediaBits_range 2 check.2).symm, ?_⟩
  have hsync : exec .syncMarkFound s = .next (s.onPassBody fun p => p.body.syncFound) := exec_not_held hheld
  have hid : exec (.idComplete track sideSector) s = .next (s.onPassBody fun p =>
      p.idArrived (byteAt track.val 0) (byteAt sideSector.val 0)) := exec_not_held hheld
  have hrecord : exec (.recordComplete bits check) s = .next (s.onPassBody fun p =>
      p.recordArrived (rdataBlock bits) (rdataCheck check) (s.passContents p)) := exec_not_held hheld
  rw [hsync, hid, hrecord]
  refine ⟨fun p checks n hp hb => ?_, fun p checks n hp hb => ?_, fun p checks n hp hb => ?_, fun h => ?_,
    fun h => ?_, fun h => ?_⟩
  · rw [State.onPassBody_some _ hp, hb, PassBody.syncFound_searching]
  · rw [State.onPassBody_some _ hp, Pass.idArrived_reading _ _ hb]
  · rw [State.onPassBody_some _ hp, Pass.recordArrived_matched _ _ _ hb, recordOutcome_eq]
    rfl
  · rw [State.onPassBody_self fun p hp => PassBody.syncFound_other fun checks n => h p checks n hp]
  · rw [State.onPassBody_self fun p hp => Pass.idArrived_other _ _ fun checks n => h p checks n hp]
  · rw [State.onPassBody_self fun p hp => Pass.recordArrived_other _ _ _ fun checks n => h p checks n hp]

/-! ### The end of a record that is written -/

theorem State.onOwner_tag_ne (s : State) {o : Owner} (f : Request → Request) {t : TagNo} (h : o ≠ .tag t) :
    (s.onOwner o f).tag t = s.tag t := by
  cases o with
  | detached => rfl
  | tag u => exact State.onActive_tag_ne fun he => h (by rw [he])

theorem State.onOwner_tag {s : State} {t : TagNo} {r : Request} {c : Nat} {ph : Phase} {k : Bool}
    (f : Request → Request) (h : s.tag t = .active r c ph k) :
    (s.onOwner (.tag t) f).tag t = .active (f r) c ph k := by
  rw [State.onOwner, State.onActive_active h, State.tag_setTag]

/-- The end of a record: the gate closes, the sector is counted, the owning request keeps it, and the pass
goes on with a body of its own (R112, R115). -/
def State.recordEnded (s : State) (p : Pass) (f : Request → Request) (body : PassBody) : State :=
  { (s.closeGate.raiseSectorsWritten p.drive).onOwner p.owner f with pass := some { p with body := body } }

theorem State.recordEnded_frame (s : State) (p : Pass) (f : Request → Request) (body : PassBody) :
    s.recordEnded p f body = { s with
      pass := some { p with body := body }
      port := { s.port with wgate := false, comp := false, wdata := [] }
      units := (s.raiseSectorsWritten p.drive).units, tags := (s.recordEnded p f body).tags } := by
  rw [State.recordEnded, State.onOwner_eq]
  rfl

theorem State.recordEnded_drive (s : State) (p : Pass) (f : Request → Request) (body : PassBody) :
    (s.recordEnded p f body).drive p.drive = { s.drive p.drive with stats := { (s.drive p.drive).stats with
      sectorsWritten := raised (s.drive p.drive).stats.sectorsWritten } }
    ∧ (s.recordEnded p f body).drive p.drive.other = s.drive p.drive.other := by
  have hdrive : ∀ e, (s.recordEnded p f body).drive e = (s.raiseSectorsWritten p.drive).drive e :=
    State.drive_congr (by rw [State.recordEnded_frame])
  rw [hdrive, hdrive, State.raiseSectorsWritten, bump_eq]
  exact ⟨State.drive_setStats s p.drive _, State.drive_setStats_other s p.drive _⟩

theorem State.recordEnded_tag (s : State) {p : Pass} {t : TagNo} {r : Request} {c : Nat} {ph : Phase}
    {k : Bool} (f : Request → Request) (body : PassBody) (howner : p.owner = .tag t)
    (htag : s.tag t = .active r c ph k) : (s.recordEnded p f body).tag t = .active (f r) c ph k := by
  have htag' : (s.closeGate.raiseSectorsWritten p.drive).tag t = .active r c ph k := htag
  rw [← State.onOwner_tag f htag', ← howner]
  rfl

theorem Request.wrote_eq (r : Request) : r.wrote = { r with
    written := 1
    work := match r.work with
      | .write a true b l _ => .write a true b l true
      | w => w } := by
  obtain ⟨w, d, session, stamp, written⟩ := r
  cases w with
  | write a v b l due => cases v <;> rfl
  | _ => rfl

/-- Settles O57: both ends of a record act alike on the gate, the counter and the owner. -/
theorem writtenRecordCounts : Obligations.WrittenRecordCounts := by
  intro s hheld closed counted
  have hwrite : exec .writeComplete s = .next s.writeDone := exec_not_held hheld
  have hformat : exec .formatSectorComplete s = .next s.formatSectorDone := exec_not_held hheld
  have hcounted : ∀ p f body, counted (s.recordEnded p f body) p body := by
    intro p f body
    have hframe := s.recordEnded_frame p f body
    obtain ⟨hdrive, hother⟩ := s.recordEnded_drive p f body
    refine ⟨rfl, by rw [hframe], hdrive, hother, fun t ht => State.onOwner_tag_ne _ f ht, ?_⟩
    rw [hframe]
  rw [hwrite, hformat]
  refine ⟨fun p n hp hb => ⟨s.recordEnded p Request.wrote (.writing n .complete), ?_, hcounted _ _ _,
    fun t r c ph k howner htag => ?_⟩, fun p fill n done stop hp hb =>
      ⟨s.recordEnded p (fun r => { r with written := done + 1 })
        (.formatting fill (some ⟨n, .complete⟩) (done + 1) stop), ?_, hcounted _ _ _,
        fun t r c ph k howner htag => State.recordEnded_tag s _ _ howner htag⟩, fun h => ?_, fun h => ?_⟩
  · simp only [State.writeDone, hp, hb] <;> rfl
  · exact (State.recordEnded_tag s _ _ howner htag).trans (congrArg (TagState.active · c ph k) r.wrote_eq)
  · simp only [State.formatSectorDone, hp, hb] <;> rfl
  · unfold State.writeDone
    split
    · next p hp =>
      split
      · next hb => exact absurd hb (h p _ hp)
      · rfl
    · rfl
  · unfold State.formatSectorDone
    split
    · next p hp =>
      split
      · next hb => exact absurd hb (h p _ _ _ _ hp)
      · rfl
    · rfl

end Sys2Proof.Machine

/-! ## The ending pulse of a pass -/

namespace Sys2Proof.Machine

/-- Only data received OK or with DATA_CHECK by a read pass reach its buffer (R110, R129). -/
theorem State.placeData_buffers (s : State) (p : Pass) :
    (s.placeData p).buffers = (s.passOver p).buffers := by
  obtain ⟨d, track, side, owner, buffer, body⟩ := p
  cases buffer with
  | none => cases body with
    | reading check n stage => cases check <;> cases stage with
      | decided o data => cases data <;> rfl
      | _ => rfl
    | _ => rfl
  | some b => cases body with
    | reading check n stage => cases check <;> cases stage with
      | decided o data => cases data <;> cases o <;> rfl
      | _ => rfl
    | _ => rfl

/-- The ending pulse makes the pass over, then delivers what it found (R107). -/
theorem State.endPass_eq (s : State) (p : Pass) : s.endPass p = (s.passOver p).deliver p := by
  have hover : { (s.placeData p).releaseBus with pass := none } = s.passOver p := by
    rw [State.placeData_eq, State.placeData_buffers]
    rfl
  rw [State.endPass, hover]

section Stage

variable {s : State} {p : Pass} {d : Drive} {pulse : Pulse}

theorem State.passStage_other (hp : s.pass = some p) (h : p.drive ≠ d) : s.passStage d pulse = s := by
  simp only [State.passStage, hp, if_neg h]

/-- A sector pulse closes the sector of a format revolution and begins the next (R115). -/
theorem State.passStage_nextSector {fill : Byte} {current : Option FormatSector} {n done : Nat}
    (hp : s.pass = some p) (h : p.drive = d) (hbody : p.body = .formatting fill current done false) :
    s.passStage d (.sector n) = s.closeGate.beginFormatSector p fill done n := by
  simp only [State.passStage, hp, h, hbody, if_true, State.formatSectorPulse] <;> rfl

/-- Every other pulse of its drive ends a pass, a format revolution marked to stop too (R107, R115). -/
theorem State.passStage_ends (hp : s.pass = some p) (h : p.drive = d)
    (hother : ∀ fill current n done, pulse = .sector n → p.body ≠ .formatting fill current done false) :
    s.passStage d pulse = s.endPass p := by
  unfold State.passStage
  rw [hp]
  simp only [h, if_true]
  split
  · next fill current done stop n hbody =>
    cases stop with
    | false => exact absurd hbody (hother fill current n done rfl)
    | true => exact State.closeGate_endPass s p
  · rfl

end Stage

/-! ### What a pass delivers -/

section Deliver

variable {s : State} {p : Pass} {t : TagNo} {r : Request} {c : Nat} {ph : Phase}

theorem State.deliver_detached (h : p.owner = .detached) : s.deliver p = s.freeBuffer p.buffer := by
  simp only [State.deliver, h]

/-- An owner with the abort-pending mark ends ABORTED, whatever the pass found (R22). -/
theorem State.deliver_aborted (h : p.owner = .tag t) (htag : s.tag t = .active r c ph true) :
    s.deliver p = s.finishTag t .aborted := by
  simp only [State.deliver, h, htag, State.finishTag]

theorem State.deliver_owned (h : p.owner = .tag t) (htag : s.tag t = .active r c ph false) :
    s.deliver p = s.settleOutcome t r p.body := by
  simp only [State.deliver, h, htag]

/-- A written record with the VERIFY flag goes back to ROTATE for its check pass; any other ends OK (R113). -/
theorem State.settleOutcome_written (n : Nat) (htag : s.tag t = .active r c ph false) :
    s.settleOutcome t r (.writing n .complete) = if r.work.verifies
      then s.setTag t (.active r c .rotate false) else s.finishTag t .ok := by
  rw [← State.setPhase_active htag]
  rfl

end Deliver

/-- Settles O58: a pulse ends the pass of its drive but for a sector pulse in a running format revolution;
what the pass found then reaches its owner. -/
theorem outcomeAtEndingPulse : Obligations.OutcomeAtEndingPulse := by
  intro s d pulse p hp e q
  refine ⟨fun h => State.passStage_other hp h, fun h fill current n done hpulse hbody => ?_,
    fun h hother => ?_⟩
  · subst hpulse h
    exact State.passStage_nextSector hp rfl hbody
  · have hq : q = e.deliver p := (State.passStage_ends hp h hother).trans (s.endPass_eq p)
    rw [hq]
    refine ⟨fun howner => ?_, fun t r c ph howner htag => State.deliver_aborted howner htag,
      fun t r c ph howner htag => ?_⟩
    · rw [State.deliver_detached howner]
      exact ⟨e.freeBuffer_buffer p.buffer, e.freeBuffer_eq p.buffer⟩
    · rw [State.deliver_owned (s := e) howner htag]
      cases hbody : p.body with
      | formatting fill current done stop => rfl
      | writing n stage =>
        cases stage with
        | gateOpen => rfl
        | complete =>
          refine (State.settleOutcome_written (s := e) n htag).trans ?_
          cases hw : r.work with
          | write a v b l due => cases v <;> rfl
          | _ => rfl
      | reading check n stage =>
        cases stage with
        | decided o data => cases check <;> cases o <;> rfl
        | _ => cases check <;> rfl

end Sys2Proof.Machine
